-- ==== Sys2Proof/Word.lean ====
section
/-! DEFINITION. The word types of the TinyMT64 core (spec/00_scope.md R7, R9; spec/30_encoding.md R56). -/

namespace Sys2Proof

/-- A 64-bit unsigned word: status words, `TMAT`, seeds, key words, response data (00 R7). Arithmetic on it wraps modulo
2^64 and its right shift is logical (00 R10); `BitVec`'s own operations do exactly that. -/
abbrev Word := BitVec 64

/-- A 32-bit unsigned word: `MAT1`, `MAT2`, `J`, `KEYLEN` (00 R7, 10 R33). -/
abbrev Half := BitVec 32

/-- A command word `CW`: opcode in bits 71:64, operand in bits 63:0 (30 R56). -/
abbrev CommandWord := BitVec 72

/-- A response word `RW`: status in bits 67:64, data in bits 63:0 (30 R57). -/
abbrev ResponseWord := BitVec 68

end Sys2Proof
end

