-- ==== Sys2Proof/Config.lean ====
section
/-! DEFINITION. What an implementation fixes (the open parameters of spec/00_scope.md R8) and the free values: what an
element of the state that "holds no value" (spec/10_state.md R36) may hold. -/

namespace Sys2Proof

/-- `ARRAY_SEED_PROFILE`: which of two readings of the array-seeding prose is built (42 R89). -/
inductive ArraySeedProfile where
  /-- TMT's sentences read literally: the mix result is written, the key length does not enter the priming. -/
  | doc
  /-- The in-place update of the public reference: the folded value is written, the key length enters the priming. -/
  | ref
  deriving DecidableEq, Repr

/-- The open parameters of the hardware (00 R8), fixed for its life and changed by no command (10 R34). The machine carries
them in one field of its state that nothing writes, so that a claim about every state is a claim about every choice of them.
The constraint of table R8 is `configValid`, in Machine/Operands.lean. -/
structure Config where
  /-- `CERT_S0`, the first word period certification writes (41 R83). -/
  certS0 : Word
  /-- `CERT_S1`, the second word period certification writes (41 R83). -/
  certS1 : Word
  /-- `ARRAY_SEED_PROFILE` (42 R89). -/
  profile : ArraySeedProfile
  /-- `KEYLEN_MAX`, the longest key the core accepts (42 R86). -/
  keylenMax : Nat
  deriving DecidableEq, Repr

/-- The defaults table R8 recommends. DESIGN CHOICE (log entry 5): the machine of `State.reset` has them; no statement about
every state depends on them. -/
def Config.recommended : Config where
  certS0 := 0x54
  certS1 := 0x4d
  profile := .doc
  keylenMax := 2 ^ 31 - 1

/-! ### Free values

An element that "holds no value" (10 R36) holds an arbitrary word that no accepted command can observe (10 R35, 93 V5, V6:
neither zero nor the previous contents may be assumed). Each of these constants has no body that a proof could see; the
argument is the draw, counted by the state's field `draws`. DESIGN CHOICE, log entries 3 and 4. -/

/-- What `S0` holds after draw `n` took its value away. -/
opaque Config.noValueS0 (n : Nat) : Word

/-- What `S1` holds after draw `n` took its value away. -/
opaque Config.noValueS1 (n : Nat) : Word

/-- What `ST[k]` holds after draw `n` took its value away. -/
opaque Config.noValueSt (n : Nat) (k : BitVec 2) : Word

/-- What `I` holds after draw `n` took its value away. -/
opaque Config.noValueI (n : Nat) : BitVec 2

/-- What `J` holds after draw `n` took its value away. -/
opaque Config.noValueJ (n : Nat) : Half

/-- What `KEYLEN` holds after draw `n` took its value away. -/
opaque Config.noValueKeylen (n : Nat) : Half

end Sys2Proof
end

