-- ==== Sys2Proof/Syntax.lean ====
section
/-! DEFINITION. The 26 commands of spec/30_encoding.md table R60, one constructor each. -/

namespace Sys2Proof

/-- A command. Formats W and D carry the whole 64-bit operand field `imm`, since the check of a format-W operand belongs to
the command (30 R58: `ERR_ARG`, not truncation). Format N carries nothing: its operand is "not checked, not stored"
(30 R56). -/
inductive Instr where
  /-- `LDMAT1` (format W, opcode 0x10, R75): loads the transition parameter `MAT1`; `imm[63:32]` must be zero. -/
  | ldmat1 (imm : Word)
  /-- `LDMAT2` (format W, opcode 0x11, R76): loads the transition parameter `MAT2`; `imm[63:32]` must be zero. -/
  | ldmat2 (imm : Word)
  /-- `LDTMAT` (format D, opcode 0x12, R77): loads the tempering parameter `TMAT`. -/
  | ldtmat (imm : Word)
  /-- `SEED` (format D, opcode 0x20, R80): seeds from one 64-bit seed. -/
  | seed (imm : Word)
  /-- `SEEDA` (format D, opcode 0x21, R86): begins an array seeding; the operand is the key length. -/
  | seeda (imm : Word)
  /-- `KEY` (format D, opcode 0x22, R90): supplies the next key word. -/
  | key (imm : Word)
  /-- `STEP` (format N, opcode 0x30, R96): applies the state transition once. -/
  | step
  /-- `TU64` (format N, opcode 0x40, R104): reads the integer output of the current state. -/
  | tu64
  /-- `TD12` (format N, opcode 0x41, R106): reads the double in [1,2). -/
  | td12
  /-- `TD01` (format N, opcode 0x42, R107): reads the double in [0,1), 52 bits. -/
  | td01
  /-- `TDOO` (format N, opcode 0x43, R108): reads the double in (0,1). -/
  | tdoo
  /-- `TDOC` (format N, opcode 0x44, R109): reads the double in (0,1]. -/
  | tdoc
  /-- `TD53` (format N, opcode 0x45, R110): reads the double in [0,1), 53 bits. -/
  | td53
  /-- `GU64` (format N, opcode 0x50, R112): transition, then `TU64`. -/
  | gu64
  /-- `GD12` (format N, opcode 0x51, R113): transition, then `TD12`. -/
  | gd12
  /-- `GD01` (format N, opcode 0x52, R114): transition, then `TD01`. -/
  | gd01
  /-- `GDOO` (format N, opcode 0x53, R115): transition, then `TDOO`. -/
  | gdoo
  /-- `GDOC` (format N, opcode 0x54, R116): transition, then `TDOC`. -/
  | gdoc
  /-- `GD53` (format N, opcode 0x55, R117): transition, then `TD53`. -/
  | gd53
  /-- `RDS0` (format N, opcode 0x60, R125): returns `S0`. -/
  | rds0
  /-- `RDS1` (format N, opcode 0x61, R126): returns `S1`. -/
  | rds1
  /-- `RDMAT1` (format N, opcode 0x62, R127): returns `MAT1`, zero-extended. -/
  | rdmat1
  /-- `RDMAT2` (format N, opcode 0x63, R128): returns `MAT2`, zero-extended. -/
  | rdmat2
  /-- `RDTMAT` (format N, opcode 0x64, R129): returns `TMAT`. -/
  | rdtmat
  /-- `RDSTAT` (format N, opcode 0x65, R130): returns `STAT`. -/
  | rdstat
  /-- `RDEXP` (format N, opcode 0x66, R131): returns the state exponent 127. -/
  | rdexp
  deriving DecidableEq, Repr

/-- The three formats of a command word (30 R56): no operand, 32-bit operand, 64-bit operand. -/
inductive Format where
  | n
  | w
  | d
  deriving DecidableEq, Repr

/-- The format column of table R60. -/
def Instr.format : Instr → Format
  | .ldmat1 _ => .w
  | .ldmat2 _ => .w
  | .ldtmat _ => .d
  | .seed _ => .d
  | .seeda _ => .d
  | .key _ => .d
  | .step => .n
  | .tu64 => .n
  | .td12 => .n
  | .td01 => .n
  | .tdoo => .n
  | .tdoc => .n
  | .td53 => .n
  | .gu64 => .n
  | .gd12 => .n
  | .gd01 => .n
  | .gdoo => .n
  | .gdoc => .n
  | .gd53 => .n
  | .rds0 => .n
  | .rds1 => .n
  | .rdmat1 => .n
  | .rdmat2 => .n
  | .rdtmat => .n
  | .rdstat => .n
  | .rdexp => .n

/-- The mnemonic column of table R60. -/
def Instr.mnemonic : Instr → String
  | .ldmat1 _ => "LDMAT1"
  | .ldmat2 _ => "LDMAT2"
  | .ldtmat _ => "LDTMAT"
  | .seed _ => "SEED"
  | .seeda _ => "SEEDA"
  | .key _ => "KEY"
  | .step => "STEP"
  | .tu64 => "TU64"
  | .td12 => "TD12"
  | .td01 => "TD01"
  | .tdoo => "TDOO"
  | .tdoc => "TDOC"
  | .td53 => "TD53"
  | .gu64 => "GU64"
  | .gd12 => "GD12"
  | .gd01 => "GD01"
  | .gdoo => "GDOO"
  | .gdoc => "GDOC"
  | .gd53 => "GD53"
  | .rds0 => "RDS0"
  | .rds1 => "RDS1"
  | .rdmat1 => "RDMAT1"
  | .rdmat2 => "RDMAT2"
  | .rdtmat => "RDTMAT"
  | .rdstat => "RDSTAT"
  | .rdexp => "RDEXP"

end Sys2Proof
end

