-- ==== Sys2Proof/WellFormed.lean ====
section
/-! DEFINITION. When a command's operand is legal (spec/30_encoding.md R58, spec/60_exceptions.md R155). -/

namespace Sys2Proof

/-- Whether the operand of a command is legal on a core with parameters `c`: a format-W operand fits 32 bits, and the key
length of `SEEDA` lies in 1 to `KEYLEN_MAX`; every other operand is legal or ignored (30 R58). An ill-formed command can still
be encoded and sent: the core answers it with `ERR_ARG` (60 R155), log entry 22. -/
def Instr.wellFormed (c : Config) : Instr → Bool
  | .ldmat1 imm => decide (imm.toNat < 2 ^ 32)
  | .ldmat2 imm => decide (imm.toNat < 2 ^ 32)
  | .ldtmat _ => true
  | .seed _ => true
  | .seeda imm => decide (1 ≤ imm.toNat ∧ imm.toNat ≤ c.keylenMax)
  | .key _ => true
  | .step => true
  | .tu64 => true
  | .td12 => true
  | .td01 => true
  | .tdoo => true
  | .tdoc => true
  | .td53 => true
  | .gu64 => true
  | .gd12 => true
  | .gd01 => true
  | .gdoo => true
  | .gdoc => true
  | .gd53 => true
  | .rds0 => true
  | .rds1 => true
  | .rdmat1 => true
  | .rdmat2 => true
  | .rdtmat => true
  | .rdstat => true
  | .rdexp => true

end Sys2Proof
end

