-- ==== Sys2Proof/Decode.lean ====
section
/-! DEFINITION. Decoding a command word, and encoding a command (spec/30_encoding.md R56, R60, R61, R65, R67). -/

namespace Sys2Proof

/-- Why a command word is no command. -/
inductive DecodeError where
  /-- The opcode is not in table R60 (30 R65). The core answers `ERR_ILLEGAL`; raised by `decode` alone. -/
  | reservedOpcode (op : BitVec 8)
  deriving DecidableEq, Repr

/-- `CW[71:64]` (30 R56). -/
def opcodeOf (cw : CommandWord) : BitVec 8 := cw.extractLsb' 64 8

/-- `CW[63:0]` (30 R56). -/
def operandOf (cw : CommandWord) : Word := cw.extractLsb' 0 64

/-- The command word with opcode `op` and operand `imm` (30 R56). -/
def commandWord (op : BitVec 8) (imm : Word) : CommandWord := op ++ imm

/-- Decoding, total on every 72-bit word (30 R61): table R60 read row by row, nothing but the opcode selecting the
command, and every opcode outside the table refused by name (30 R65). -/
def decode (cw : CommandWord) : Except DecodeError Instr :=
  let imm := operandOf cw
  match opcodeOf cw with
  | 0x10#8 => .ok (.ldmat1 imm)
  | 0x11#8 => .ok (.ldmat2 imm)
  | 0x12#8 => .ok (.ldtmat imm)
  | 0x20#8 => .ok (.seed imm)
  | 0x21#8 => .ok (.seeda imm)
  | 0x22#8 => .ok (.key imm)
  | 0x30#8 => .ok .step
  | 0x40#8 => .ok .tu64
  | 0x41#8 => .ok .td12
  | 0x42#8 => .ok .td01
  | 0x43#8 => .ok .tdoo
  | 0x44#8 => .ok .tdoc
  | 0x45#8 => .ok .td53
  | 0x50#8 => .ok .gu64
  | 0x51#8 => .ok .gd12
  | 0x52#8 => .ok .gd01
  | 0x53#8 => .ok .gdoo
  | 0x54#8 => .ok .gdoc
  | 0x55#8 => .ok .gd53
  | 0x60#8 => .ok .rds0
  | 0x61#8 => .ok .rds1
  | 0x62#8 => .ok .rdmat1
  | 0x63#8 => .ok .rdmat2
  | 0x64#8 => .ok .rdtmat
  | 0x65#8 => .ok .rdstat
  | 0x66#8 => .ok .rdexp
  | op => .error (.reservedOpcode op)

/-- The opcode column of table R60. -/
def Instr.opcode : Instr → BitVec 8
  | .ldmat1 _ => 0x10#8
  | .ldmat2 _ => 0x11#8
  | .ldtmat _ => 0x12#8
  | .seed _ => 0x20#8
  | .seeda _ => 0x21#8
  | .key _ => 0x22#8
  | .step => 0x30#8
  | .tu64 => 0x40#8
  | .td12 => 0x41#8
  | .td01 => 0x42#8
  | .tdoo => 0x43#8
  | .tdoc => 0x44#8
  | .td53 => 0x45#8
  | .gu64 => 0x50#8
  | .gd12 => 0x51#8
  | .gd01 => 0x52#8
  | .gdoo => 0x53#8
  | .gdoc => 0x54#8
  | .gd53 => 0x55#8
  | .rds0 => 0x60#8
  | .rds1 => 0x61#8
  | .rdmat1 => 0x62#8
  | .rdmat2 => 0x63#8
  | .rdtmat => 0x64#8
  | .rdstat => 0x65#8
  | .rdexp => 0x66#8

/-- The operand field an assembled command carries: the operand of formats W and D, and zero for format N (30 R67). -/
def Instr.operand : Instr → Word
  | .ldmat1 imm => imm
  | .ldmat2 imm => imm
  | .ldtmat imm => imm
  | .seed imm => imm
  | .seeda imm => imm
  | .key imm => imm
  | .step => 0#64
  | .tu64 => 0#64
  | .td12 => 0#64
  | .td01 => 0#64
  | .tdoo => 0#64
  | .tdoc => 0#64
  | .td53 => 0#64
  | .gu64 => 0#64
  | .gd12 => 0#64
  | .gd01 => 0#64
  | .gdoo => 0#64
  | .gdoc => 0#64
  | .gd53 => 0#64
  | .rds0 => 0#64
  | .rds1 => 0#64
  | .rdmat1 => 0#64
  | .rdmat2 => 0#64
  | .rdtmat => 0#64
  | .rdstat => 0#64
  | .rdexp => 0#64

/-- The command word a command assembles to (30 R56, R67). -/
def encode (i : Instr) : CommandWord := commandWord i.opcode i.operand

/-- The command the decoder reads from the opcode table's numbering of a word: the table numbers the 72 bits of a command
word as `CW` does, so the number itself is the word, every bit above `nbits` being 0 (log entry 20). -/
def tableWord (nbits w : Nat) : CommandWord := BitVec.ofNat 72 (w % 2 ^ nbits)

/-- What the decoder reads from a word of the opcode table. -/
def decodeTableWord (nbits w : Nat) : Option Instr := (decode (tableWord nbits w)).toOption

end Sys2Proof
end

