-- ==== Sys2Proof/Machine/State.lean ====
section
/-! DEFINITION. The state of one TinyMT64 core with its ports (spec/10_state.md R21, R35; spec/30_encoding.md R55, R57). -/

namespace Sys2Proof.Machine

/-- Why a step stops with a fault. NO constructor: the core has no fault that stops it; every command word in every state is
answered (60 R157), and an error is a response (60 R156, R163). That `step` cannot fault therefore holds by this type. -/
inductive Fault where
  deriving DecidableEq, Repr

/-- Why a step has no meaning. -/
inductive Refusal where
  /-- The command has no meaning yet. Raised by an arm of `exec` alone; no arm raises it, so the core refuses nothing.
  Safe: it stops where the hardware goes on. -/
  | notModelled (mnemonic : String)
  deriving DecidableEq, Repr

/-- `PHASE`, the lifecycle flag (10 R26). Its code 3 is never taken, so it has no constructor (93 V3). -/
inductive Phase where
  /-- No seeding has completed since reset or the last parameter load. -/
  | unseeded
  /-- An array seeding has begun and has not yet received all its key words. -/
  | keyload
  /-- A seeding has completed; `S0`, `S1` hold the generator state. -/
  | ready
  deriving DecidableEq, Repr

/-- The status of a response (30 R57). The codes 5 to 15 are never produced, so they have no constructor (93 V2). -/
inductive Status where
  | ok
  /-- The opcode is reserved. -/
  | errIllegal
  /-- The operand is out of range. -/
  | errArg
  /-- The command needs the generator state, which holds no value. -/
  | errUnseeded
  /-- A key word arrived when no array seeding is in progress. -/
  | errSeq
  deriving DecidableEq, Repr

/-- One transfer on the response port (30 R57); its 68-bit word is `responseWord`, in Machine/Flags.lean. -/
structure Response where
  status : Status
  data : Word
  deriving DecidableEq, Repr

/-- What the host presents to the core: one transfer on the command port, or reset asserted (30 R55, 70 R181). -/
inductive PortInput where
  | command (cw : CommandWord)
  | reset
  deriving DecidableEq, Repr

/-- The array-seeding buffer `ST[0..3]` (10 R32). -/
structure SeedBuffer where
  st0 : Word
  st1 : Word
  st2 : Word
  st3 : Word
  deriving DecidableEq, Repr

/-- One core: the tuple of 10 R21, the parameters of the hardware, the two ports, and the model's own counter of free
values. -/
structure State where
  /-- `S0`, TMT's `status0` (10 R22); holds a value only in phase `READY` (10 R36). -/
  s0 : Word
  /-- `S1`, TMT's `status1` (10 R22); holds a value only in phase `READY`. -/
  s1 : Word
  /-- `MAT1` (10 R28). -/
  mat1 : Half
  /-- `MAT2` (10 R29). -/
  mat2 : Half
  /-- `TMAT` (10 R30). -/
  tmat : Word
  /-- `PHASE` (10 R26). -/
  phase : Phase
  /-- `ST[0..3]` (10 R32); holds a value only in phase `KEYLOAD`. -/
  st : SeedBuffer
  /-- `I`, the rotating index (10 R33); holds a value only in phase `KEYLOAD`. -/
  i : BitVec 2
  /-- `J`, the number of key words consumed (10 R33); holds a value only in phase `KEYLOAD`. -/
  j : Half
  /-- `KEYLEN`, the key length announced (10 R33); holds a value only in phase `KEYLOAD`. -/
  keylen : Half
  /-- The open parameters of the hardware (00 R8); no command writes them (10 R34). -/
  config : Config
  /-- The model's own: how many free values have been drawn (log entry 4). -/
  draws : Nat
  /-- What the host will present next, in order (20 R50, 70 R181; log entry 1). -/
  input : List PortInput
  /-- The responses delivered so far, oldest first (30 R55; log entry 2). -/
  responses : List Response
  deriving DecidableEq, Repr

/-- The core right after reset (10 table R35, 70 R180): `UNSEEDED`, the default parameters, everything that holds no value
at the free values of draw 0 (DESIGN CHOICE, log entry 3), nothing presented and nothing answered. -/
def State.reset : State where
  s0 := Config.noValueS0 0
  s1 := Config.noValueS1 0
  mat1 := 0xfa051f40
  mat2 := 0xffd0fff4
  tmat := 0x58d02ffeffbfffbc
  phase := .unseeded
  st := ⟨Config.noValueSt 0 0, Config.noValueSt 0 1, Config.noValueSt 0 2, Config.noValueSt 0 3⟩
  i := Config.noValueI 0
  j := Config.noValueJ 0
  keylen := Config.noValueKeylen 0
  config := Config.recommended
  draws := 1
  input := []
  responses := []

end Sys2Proof.Machine
end

