-- ==== Sys2Proof/Machine/Flags.lean ====
section
/-! DEFINITION. The one flag `PHASE`, the two read-only registers made of wires, and the status of a response
(spec/10_state.md R26, R31; spec/30_encoding.md R57). No command leaves a condition code (10 R26). -/

namespace Sys2Proof.Machine

/-- The 2-bit code of `PHASE` (10 R26). -/
def phaseCode : Phase → BitVec 2
  | .unseeded => 0
  | .keyload => 1
  | .ready => 2

/-- `STAT` (10 R31): `PHASE` in bits 1:0, zeros above. -/
def statWord (p : Phase) : Word := (phaseCode p).setWidth 64

/-- `EXP` (10 R31): hardwired 127. -/
def expWord : Word := 127

/-- The 4-bit code of a status (30 R57). -/
def statusCode : Status → BitVec 4
  | .ok => 0
  | .errIllegal => 1
  | .errArg => 2
  | .errUnseeded => 3
  | .errSeq => 4

/-- The 68-bit word on the response port (30 R57): status in bits 67:64, data in bits 63:0. -/
def responseWord (r : Response) : ResponseWord := statusCode r.status ++ r.data

end Sys2Proof.Machine
end

