-- ==== Sys2Proof/Machine/Operands.lean ====
section
/-! DEFINITION. The operand forms of a command word and the word helpers every rule uses (spec/00_scope.md R6, R8, R10;
spec/30_encoding.md R58). -/

namespace Sys2Proof.Machine

/-- `MASK` (00 table R6): the 63 significant bits of `S0`. -/
def mask : Word := 0x7fffffffffffffff

/-- `zext_64` of a 32-bit value (00 R10). -/
def zext64 (v : Half) : Word := v.setWidth 64

/-- `zext_64` of the 2-bit index `I` (42 R90, R92). -/
def zextIndex (k : BitVec 2) : Word := k.setWidth 64

/-- The pair the transition never leaves (10 R24, 41 R83): zero in the 127 significant bits. Bit 63 of `a` does not count. -/
def maskedZero (a b : Word) : Bool := decide (a &&& mask = 0 ∧ b = 0)

/-- The constraints of table R8 on the open parameters: the sentinel is non-zero under the mask, and
`1 ≤ KEYLEN_MAX ≤ 2^32 - 2`. -/
def configValid (c : Config) : Bool :=
  !maskedZero c.certS0 c.certS1 && decide (1 ≤ c.keylenMax ∧ c.keylenMax ≤ 2 ^ 32 - 2)

/-- The format-W operand (30 R58): `imm[31:0]`, and none when `imm[63:32]` is not zero. -/
def operandW (imm : Word) : Option Half :=
  if imm.extractLsb' 32 32 = 0 then some (imm.extractLsb' 0 32) else none

/-- The key length of `SEEDA` (30 R58, 42 R86): `imm[31:0]` when the whole operand lies in 1 to `KEYLEN_MAX`. -/
def operandKeyLength (c : Config) (imm : Word) : Option Half :=
  if imm = 0 ∨ imm.toNat > c.keylenMax then none else some (imm.extractLsb' 0 32)

end Sys2Proof.Machine
end

