-- ==== Sys2Proof/Machine/Ops.lean ====
section
/-! DEFINITION. The named operations over the state: answering, raising an error (this core's only exception), writing each
register, losing values, and reset. -/

namespace Sys2Proof.Machine

/-- What one command gives. -/
abbrev Result := Host.Outcome State Fault Refusal

/-! ### The response port -/

/-- Deliver one response (30 R55). -/
def State.respond (s : State) (st : Status) (d : Word) : State :=
  { s with responses := s.responses ++ [⟨st, d⟩] }

/-- `respond(OK, d)` (00 R11): end the command with status `OK` and data `d`. -/
def answer (s : State) (d : Word) : Result := .next (s.respond .ok d)

/-- `raise e` (00 R11, 60 R156, R163): the one way this core takes an exception. The response is the error status with data
0, and every state element is unchanged. There is nothing to return from (60 R164). -/
def raise (s : State) (e : Status) : Result := .next (s.respond e 0)

/-- The phase check of a command that needs `S0`, `S1` (60 R155): `ERR_UNSEEDED` unless `PHASE = READY`. -/
def whenReady (s : State) (k : Result) : Result :=
  if s.phase = .ready then k else raise s .errUnseeded

/-- The phase check of `KEY` (60 R155): `ERR_SEQ` unless `PHASE = KEYLOAD`. -/
def whenKeyload (s : State) (k : Result) : Result :=
  if s.phase = .keyload then k else raise s .errSeq

/-! ### Register writes -/

/-- `MAT1 <- v`. -/
def State.writeMat1 (s : State) (v : Half) : State := { s with mat1 := v }

/-- `MAT2 <- v`. -/
def State.writeMat2 (s : State) (v : Half) : State := { s with mat2 := v }

/-- `TMAT <- v`. -/
def State.writeTmat (s : State) (v : Word) : State := { s with tmat := v }

/-- `PHASE <- p`. -/
def State.setPhase (s : State) (p : Phase) : State := { s with phase := p }

/-- `(S0, S1) <- p`. -/
def State.writeGenerator (s : State) (p : Word × Word) : State := { s with s0 := p.1, s1 := p.2 }

/-- `ST <- b`, `I <- k`. -/
def State.writeMixer (s : State) (b : SeedBuffer) (k : BitVec 2) : State := { s with st := b, i := k }

/-- `J <- v`. -/
def State.writeJ (s : State) (v : Half) : State := { s with j := v }

/-- `KEYLEN <- v`. -/
def State.writeKeylen (s : State) (v : Half) : State := { s with keylen := v }

/-! ### Losing values -/

/-- `S0`, `S1` cease to hold a value (10 R36, 93 V5): each becomes a fresh free value (log entry 4). -/
def State.dropGenerator (s : State) : State :=
  { s with s0 := Config.noValueS0 s.draws, s1 := Config.noValueS1 s.draws, draws := s.draws + 1 }

/-- `ST`, `I`, `J`, `KEYLEN` cease to hold a value (10 R36, 93 V6): each becomes a fresh free value (log entry 4). -/
def State.dropKeyLoad (s : State) : State :=
  { s with
    st := ⟨Config.noValueSt s.draws 0, Config.noValueSt s.draws 1, Config.noValueSt s.draws 2, Config.noValueSt s.draws 3⟩
    i := Config.noValueI s.draws
    j := Config.noValueJ s.draws
    keylen := Config.noValueKeylen s.draws
    draws := s.draws + 1 }

/-- What an accepted parameter load does beside the write (40 R75, 70 R185): `PHASE <- UNSEEDED` from any phase; neither the
generator nor a key load holds a value afterwards. -/
def State.endInstance (s : State) : State := (s.setPhase .unseeded).dropGenerator.dropKeyLoad

/-- What the end of a seeding does (41 R80, 42 R90): `(S0, S1) <- p`, `PHASE <- READY`; the key load holds no value
afterwards. -/
def State.becomeReady (s : State) (p : Word × Word) : State := ((s.writeGenerator p).setPhase .ready).dropKeyLoad

/-! ### Reset -/

/-- The reset input asserted (70 R180, R181): the reset values of table R35 from any state, no response; what table R35 leaves
unspecified is drawn afresh. The parameters of the hardware and the two ports are no part of what is reset. -/
def State.assertReset (s : State) : State :=
  { s with
    mat1 := State.reset.mat1
    mat2 := State.reset.mat2
    tmat := State.reset.tmat
    phase := State.reset.phase }.dropGenerator.dropKeyLoad

/-! ### The array-seeding buffer -/

/-- `ST[k]`, the index already modulo 4 (10 R32). -/
def SeedBuffer.get (b : SeedBuffer) (k : BitVec 2) : Word :=
  if k = 0 then b.st0 else if k = 1 then b.st1 else if k = 2 then b.st2 else b.st3

/-- `ST[k] <- v`. -/
def SeedBuffer.set (b : SeedBuffer) (k : BitVec 2) (v : Word) : SeedBuffer :=
  if k = 0 then { b with st0 := v }
  else if k = 1 then { b with st1 := v }
  else if k = 2 then { b with st2 := v }
  else { b with st3 := v }

end Sys2Proof.Machine
end

