-- ==== Sys2Proof/Machine/Parameters.lean ====
section
/-! DEFINITION. The parameter loads (spec/40_parameters.md). -/

namespace Sys2Proof.Machine

/-- `LDMAT1` (40 R75). -/
def execLdmat1 (imm : Word) (s : State) : Result :=
  match operandW imm with
  | none => raise s .errArg
  | some v => answer (s.writeMat1 v).endInstance 0

/-- `LDMAT2` (40 R76). -/
def execLdmat2 (imm : Word) (s : State) : Result :=
  match operandW imm with
  | none => raise s .errArg
  | some v => answer (s.writeMat2 v).endInstance 0

/-- `LDTMAT` (40 R77). -/
def execLdtmat (imm : Word) (s : State) : Result := answer (s.writeTmat imm).endInstance 0

end Sys2Proof.Machine
end

