-- ==== Sys2Proof/Machine/RegisterReads.lean ====
section
/-! DEFINITION. The register reads (spec/45_register_reads.md). -/

namespace Sys2Proof.Machine

/-- `RDS0` (45 R125). -/
def execRds0 (s : State) : Result := whenReady s (answer s s.s0)

/-- `RDS1` (45 R126). -/
def execRds1 (s : State) : Result := whenReady s (answer s s.s1)

/-- `RDMAT1` (45 R127). -/
def execRdmat1 (s : State) : Result := answer s (zext64 s.mat1)

/-- `RDMAT2` (45 R128). -/
def execRdmat2 (s : State) : Result := answer s (zext64 s.mat2)

/-- `RDTMAT` (45 R129). -/
def execRdtmat (s : State) : Result := answer s s.tmat

/-- `RDSTAT` (45 R130). -/
def execRdstat (s : State) : Result := answer s (statWord s.phase)

/-- `RDEXP` (45 R131). -/
def execRdexp (s : State) : Result := answer s expWord

end Sys2Proof.Machine
end

