-- ==== Sys2Proof/Machine/Seed.lean ====
section
/-! DEFINITION. Scalar seeding and period certification (spec/41_seed_scalar.md). -/

namespace Sys2Proof.Machine

/-- `LCG_MUL` (00 table R6). -/
def lcgMul : Word := 6364136223846793005

/-- `certify(a, b)` (41 R83): the sentinel in place of a pair that is zero in the significant bits. -/
def certify (c : Config) (a b : Word) : Word × Word :=
  if a &&& mask = 0 ∧ b = 0 then (c.certS0, c.certS1) else (a, b)

/-- What iteration `k` of step 3 XORs into the other word, `y` being the word of index `k - 1` (41 R80). -/
def seedTerm (k : Nat) (y : Word) : Word := BitVec.ofNat 64 k + lcgMul * (y ^^^ (y >>> 62))

/-- Iteration `k` of step 3 (41 R80): an odd `k` updates `s[1]` from `s[0]`, an even one `s[0]` from `s[1]`. -/
def seedIteration (p : Word × Word) (k : Nat) : Word × Word :=
  if k % 2 = 1 then (p.1, p.2 ^^^ seedTerm k p.1) else (p.1 ^^^ seedTerm k p.2, p.2)

/-- Steps 1 to 3 of scalar seeding (41 R80): the pair before certification. -/
def seedMixed (mat1 mat2 : Half) (tmat seed : Word) : Word × Word :=
  [1, 2, 3, 4, 5, 6, 7].foldl seedIteration (seed ^^^ (zext64 mat1 <<< 32), zext64 mat2 ^^^ tmat)

/-- Scalar seeding, steps 1 to 4 (41 R80). -/
def seedScalar (c : Config) (mat1 mat2 : Half) (tmat seed : Word) : Word × Word :=
  let p := seedMixed mat1 mat2 tmat seed
  certify c p.1 p.2

/-- `SEED` (41 R80). -/
def execSeed (imm : Word) (s : State) : Result :=
  answer (s.becomeReady (seedScalar s.config s.mat1 s.mat2 s.tmat imm)) 0

end Sys2Proof.Machine
end

