-- ==== Sys2Proof/Machine/SeedArray.lean ====
section
/-! DEFINITION. Array seeding, streamed one key word per command (spec/42_seed_array.md). -/

namespace Sys2Proof.Machine

/-- `MIX1_MUL` (00 table R6). -/
def mix1Mul : Word := 2173292883993

/-- `MIX2_MUL` (00 table R6). -/
def mix2Mul : Word := 58885565329898161

/-- `mix1` (42 R88). -/
def mix1 (x : Word) : Word := (x ^^^ (x >>> 59)) * mix1Mul

/-- `mix2` (42 R88). -/
def mix2 (x : Word) : Word := (x ^^^ (x >>> 59)) * mix2Mul

/-- What a pass writes back to the slot it started from (42 R89): the mix result `r` under `DOC`, the folded value `f`
under `REF`. -/
def writtenBack (p : ArraySeedProfile) (r f : Word) : Word :=
  match p with
  | .doc => r
  | .ref => f

/-- What the priming folds into `ST[2]` and writes to `ST[0]` (42 R86, R89): the key length enters under `REF` only. -/
def primingFold (p : ArraySeedProfile) (r : Word) (keylen : Half) : Word :=
  match p with
  | .doc => r
  | .ref => r + zext64 keylen

/-- The buffer after steps 1 and 2 (42 R86), which start from `st = [0, mat1, mat2, tmat]`. -/
def primedBuffer (p : ArraySeedProfile) (mat1 mat2 : Half) (tmat : Word) (keylen : Half) : SeedBuffer :=
  let r := mix1 (0 ^^^ zext64 mat1 ^^^ tmat)
  let f := primingFold p r keylen
  ⟨f, zext64 mat1 + r, zext64 mat2 + f, tmat⟩

/-- `mixstep(add)` (42 R91) on the buffer and the rotating index. Index arithmetic is modulo 4 by the index's width. -/
def mixStep (p : ArraySeedProfile) (add : Word) (m : SeedBuffer × BitVec 2) : SeedBuffer × BitVec 2 :=
  let a := m.2
  let r := mix1 (m.1.get a ^^^ m.1.get (a + 1) ^^^ m.1.get (a + 3))
  let f := r + add
  let b1 := m.1.set (a + 1) (m.1.get (a + 1) + r)
  let b2 := b1.set (a + 2) (b1.get (a + 2) + f)
  (b2.set a (writtenBack p r f), a + 1)

/-- One iteration of the mixing pass, consuming the key word `w` (42 R90, step 3). -/
def keyStep (p : ArraySeedProfile) (w : Word) (m : SeedBuffer × BitVec 2) : SeedBuffer × BitVec 2 :=
  mixStep p (w + zextIndex m.2) m

/-- One iteration of the continuation pass (42 R90, step 4). -/
def continueStep (p : ArraySeedProfile) (m : SeedBuffer × BitVec 2) : SeedBuffer × BitVec 2 :=
  mixStep p (zextIndex m.2) m

/-- `finstep()` (42 R92) on the buffer and the rotating index. -/
def finStep (p : ArraySeedProfile) (m : SeedBuffer × BitVec 2) : SeedBuffer × BitVec 2 :=
  let a := m.2
  let r := mix2 (m.1.get a + m.1.get (a + 1) + m.1.get (a + 3))
  let f := r - zextIndex a
  let b1 := m.1.set (a + 1) (m.1.get (a + 1) ^^^ r)
  let b2 := b1.set (a + 2) (b1.get (a + 2) ^^^ f)
  (b2.set a (writtenBack p r f), a + 1)

/-- The number of continuation iterations for a key of `n` words (42 R87): `max(0, 7 - n)`. -/
def continuationCount (n : Nat) : Nat := 7 - n

/-- Steps 4 and 5 (42 R90): the continuation pass, then the four finalisation iterations. -/
def finishPasses (p : ArraySeedProfile) (n : Nat) (m : SeedBuffer × BitVec 2) : SeedBuffer × BitVec 2 :=
  (finStep p)^[4] ((continueStep p)^[continuationCount n] m)

/-- Steps 6 and 7 (42 R92): the collapse and the certification. -/
def collapse (c : Config) (b : SeedBuffer) : Word × Word :=
  certify c (b.st0 ^^^ b.st1) (b.st2 ^^^ b.st3)

/-- `SEEDA` (42 R86). -/
def execSeeda (imm : Word) (s : State) : Result :=
  match operandKeyLength s.config imm with
  | none => raise s .errArg
  | some n =>
    answer
      (((((s.writeKeylen n).writeMixer (primedBuffer s.config.profile s.mat1 s.mat2 s.tmat n) 1).writeJ 0).setPhase
        .keyload).dropGenerator) 0

/-- The state of a key load after one more key word has been mixed in (42 R90, step 3). -/
def State.consumeKey (s : State) (w : Word) : State :=
  let m := keyStep s.config.profile w (s.st, s.i)
  (s.writeMixer m.1 m.2).writeJ (s.j + 1)

/-- The end of a key load, in the same step as the last key word (42 R90, steps 4 to 7). -/
def State.finishKeyLoad (s : State) : State :=
  s.becomeReady (collapse s.config (finishPasses s.config.profile s.keylen.toNat (s.st, s.i)).1)

/-- `KEY` (42 R90). -/
def execKey (imm : Word) (s : State) : Result :=
  whenKeyload s
    (if s.j + 1 = s.keylen then answer (s.consumeKey imm).finishKeyLoad 0 else answer (s.consumeKey imm) 0)

end Sys2Proof.Machine
end

