-- ==== Sys2Proof/Machine/Double.lean ====
section
/-! DEFINITION. IEEE-754 double patterns (spec/00_scope.md R12, R13). -/

namespace Sys2Proof.Machine

/-- `f64_scaled(n, s)` (00 R13): the pattern of the double `n * 2^(-s)`, for `s = 52` with `n ≤ 2^52` and `s = 53` with
`n < 2^53`. Outside that domain no rule calls it (log entry 24). -/
def f64Scaled (n s : Nat) : Word :=
  if n = 0 then 0
  else 0#1 ++ BitVec.ofNat 11 (1023 - s + n.log2) ++ BitVec.ofNat 52 (n <<< (52 - n.log2))

/-- The number a double pattern denotes (00 R12): all-zero is +0.0, and a biased exponent in 1 to 2046 gives a normal double;
R12 gives no value to any other pattern. The layout is UNVERIFIED (log entry 9). -/
def doubleValue (u : Word) : Option ℚ :=
  let e := (u.extractLsb' 52 11).toNat
  if u = 0 then some 0
  else if 1 ≤ e ∧ e ≤ 2046 then
    some ((-1 : ℚ) ^ (u.extractLsb' 63 1).toNat * (2 : ℚ) ^ ((e : ℤ) - 1023) * (1 + ((u.extractLsb' 0 52).toNat : ℚ) / 2 ^ 52))
  else none

end Sys2Proof.Machine
end

