-- ==== Sys2Proof/Machine/Transition.lean ====
section
/-! DEFINITION. The state transition (spec/43_transition.md). -/

namespace Sys2Proof.Machine

/-- `x ^= x << 12; x ^= x >> 32; x ^= x << 32; x ^= x << 11`, each using what the one before produced (43 R95, step 2). -/
def avalanche (x : Word) : Word :=
  let x1 := x ^^^ (x <<< 12)
  let x2 := x1 ^^^ (x1 >>> 32)
  let x3 := x2 ^^^ (x2 <<< 32)
  x3 ^^^ (x3 <<< 11)

/-- `next_state` (43 R95). -/
def nextState (s0 s1 : Word) (mat1 mat2 : Half) : Word × Word :=
  let x := avalanche ((s0 &&& mask) ^^^ s1)
  if x.getLsbD 0 then (s1 ^^^ zext64 mat1, x ^^^ (zext64 mat2 <<< 32)) else (s1, x)

/-- `(S0, S1) <- next_state(S0, S1, MAT1, MAT2)` (43 R96, 44 R111). -/
def State.advance (s : State) : State := s.writeGenerator (nextState s.s0 s.s1 s.mat1 s.mat2)

/-- `STEP` (43 R96). -/
def execStep (s : State) : Result := whenReady s (answer s.advance 0)

end Sys2Proof.Machine
end

