-- ==== Sys2Proof/Machine/Temper.lean ====
section
/-! DEFINITION. The tempering unit: temper reads and generate commands (spec/44_temper.md). -/

namespace Sys2Proof.Machine

/-! ### The tempering functions -/

/-- `temper_x` (44 R100): `S0` unmasked. -/
def temperX (s0 s1 : Word) : Word := (s0 + s1) ^^^ (s0 >>> 8)

/-- `temperU64` (44 R101). -/
def temperU64 (s0 s1 tmat : Word) : Word :=
  let x := temperX s0 s1
  if x.getLsbD 0 then x ^^^ tmat else x

/-- `ONE_BITS` (00 table R6). -/
def oneBits : Word := 0x3ff0000000000000

/-- `ONE_BITS_OPEN` (00 table R6, 90 C2). -/
def oneBitsOpen : Word := 0x3ff0000000000001

/-- `temperDoubleConv` (44 R102). -/
def temperDoubleConv (s0 s1 tmat : Word) : Word := (temperU64 s0 s1 tmat >>> 12) ||| oneBits

/-- `temperDoubleConvOpen` (44 R102). -/
def temperDoubleConvOpen (s0 s1 tmat : Word) : Word := (temperU64 s0 s1 tmat >>> 12) ||| oneBitsOpen

/-- `m`, the 52-bit integer `temperU64(...)[63:12]` (44 R105). -/
def temperM (s0 s1 tmat : Word) : Nat := ((temperU64 s0 s1 tmat).extractLsb' 12 52).toNat

/-- `v`, the 53-bit integer `temperU64(...)[63:11]` (44 R105). -/
def temperV (s0 s1 tmat : Word) : Nat := ((temperU64 s0 s1 tmat).extractLsb' 11 53).toNat

/-- The double in [0,1) with 52 bits: `m / 2^52` (44 R107). -/
def temperDouble01 (s0 s1 tmat : Word) : Word := f64Scaled (temperM s0 s1 tmat) 52

/-- The double in (0,1): `(m | 1) / 2^52` (44 R108). -/
def temperDoubleOO (s0 s1 tmat : Word) : Word := f64Scaled (temperM s0 s1 tmat ||| 1) 52

/-- The double in (0,1]: `(2^52 - m) / 2^52` (44 R109; the formula is the spec's D16, log entry 10). -/
def temperDoubleOC (s0 s1 tmat : Word) : Word := f64Scaled (2 ^ 52 - temperM s0 s1 tmat) 52

/-- The double in [0,1) with 53 bits: `v / 2^53` (44 R110). -/
def temperDouble53 (s0 s1 tmat : Word) : Word := f64Scaled (temperV s0 s1 tmat) 53

/-! ### The two shapes of an output command -/

/-- A temper read: the tempering function `f` of the current state, nothing changed (44 R104). -/
def temperRead (f : Word → Word → Word → Word) (s : State) : Result := whenReady s (answer s (f s.s0 s.s1 s.tmat))

/-- A generate command: one transition, then the temper read of the new state, in one step (44 R111). -/
def generate (f : Word → Word → Word → Word) (s : State) : Result :=
  whenReady s (answer s.advance (f s.advance.s0 s.advance.s1 s.advance.tmat))

/-! ### Temper reads -/

/-- `TU64` (44 R104). -/
def execTu64 (s : State) : Result := temperRead temperU64 s

/-- `TD12` (44 R106). -/
def execTd12 (s : State) : Result := temperRead temperDoubleConv s

/-- `TD01` (44 R107). -/
def execTd01 (s : State) : Result := temperRead temperDouble01 s

/-- `TDOO` (44 R108). -/
def execTdoo (s : State) : Result := temperRead temperDoubleOO s

/-- `TDOC` (44 R109). -/
def execTdoc (s : State) : Result := temperRead temperDoubleOC s

/-- `TD53` (44 R110). -/
def execTd53 (s : State) : Result := temperRead temperDouble53 s

/-! ### Generate commands -/

/-- `GU64` (44 R112). -/
def execGu64 (s : State) : Result := generate temperU64 s

/-- `GD12` (44 R113). -/
def execGd12 (s : State) : Result := generate temperDoubleConv s

/-- `GD01` (44 R114). -/
def execGd01 (s : State) : Result := generate temperDouble01 s

/-- `GDOO` (44 R115). -/
def execGdoo (s : State) : Result := generate temperDoubleOO s

/-- `GDOC` (44 R116). -/
def execGdoc (s : State) : Result := generate temperDoubleOC s

/-- `GD53` (44 R117). -/
def execGd53 (s : State) : Result := generate temperDouble53 s

end Sys2Proof.Machine
end

