-- ==== Sys2Proof/Machine/Dispatch.lean ====
section
/-! DEFINITION. One arm per command. -/

namespace Sys2Proof.Machine

def exec (i : Instr) (s : State) : Host.Outcome State Fault Refusal :=
  match i with
  | .ldmat1 imm => Sys2Proof.Machine.execLdmat1 imm s
  | .ldmat2 imm => Sys2Proof.Machine.execLdmat2 imm s
  | .ldtmat imm => Sys2Proof.Machine.execLdtmat imm s
  | .seed imm => Sys2Proof.Machine.execSeed imm s
  | .seeda imm => Sys2Proof.Machine.execSeeda imm s
  | .key imm => Sys2Proof.Machine.execKey imm s
  | .step => Sys2Proof.Machine.execStep s
  | .tu64 => Sys2Proof.Machine.execTu64 s
  | .td12 => Sys2Proof.Machine.execTd12 s
  | .td01 => Sys2Proof.Machine.execTd01 s
  | .tdoo => Sys2Proof.Machine.execTdoo s
  | .tdoc => Sys2Proof.Machine.execTdoc s
  | .td53 => Sys2Proof.Machine.execTd53 s
  | .gu64 => Sys2Proof.Machine.execGu64 s
  | .gd12 => Sys2Proof.Machine.execGd12 s
  | .gd01 => Sys2Proof.Machine.execGd01 s
  | .gdoo => Sys2Proof.Machine.execGdoo s
  | .gdoc => Sys2Proof.Machine.execGdoc s
  | .gd53 => Sys2Proof.Machine.execGd53 s
  | .rds0 => Sys2Proof.Machine.execRds0 s
  | .rds1 => Sys2Proof.Machine.execRds1 s
  | .rdmat1 => Sys2Proof.Machine.execRdmat1 s
  | .rdmat2 => Sys2Proof.Machine.execRdmat2 s
  | .rdtmat => Sys2Proof.Machine.execRdtmat s
  | .rdstat => Sys2Proof.Machine.execRdstat s
  | .rdexp => Sys2Proof.Machine.execRdexp s

end Sys2Proof.Machine
end

