-- ==== Sys2Proof/Machine/Port.lean ====
section
/-! DEFINITION. The command port: presenting a command word, taking it, and answering one that is no command
(spec/30_encoding.md R55, R61, R65). -/

namespace Sys2Proof.Machine

/-- The host presents `rest` after what is being executed. -/
def State.withInput (s : State) (rest : List PortInput) : State := { s with input := rest }

/-- The command word `cw` presented before everything else the host has to present. -/
def State.present (s : State) (cw : CommandWord) : State := s.withInput (.command cw :: s.input)

/-- A command word that is no command (30 R65): `ERR_ILLEGAL`, whatever the operand and the phase. -/
def execUndecoded (e : DecodeError) (s : State) : Result :=
  match e with
  | .reservedOpcode _ => raise s .errIllegal

end Sys2Proof.Machine
end

