-- ==== Sys2Proof/Machine/Step.lean ====
section
/-! DEFINITION. One step of the core: what the host presents next is taken and answered. -/

namespace Sys2Proof.Machine

/-- One step (20 R47, R50; 30 R61; 70 R181). With nothing presented the core is idle and holds its state (60 R173, log entry
6). RESET puts it in the reset state with no response. A command word is decoded and executed, or answered `ERR_ILLEGAL`. -/
def step (s : State) : Host.Outcome State Fault Refusal :=
  match s.input with
  | [] => .next s
  | .reset :: rest => .next (s.withInput rest).assertReset
  | .command cw :: rest =>
    match decode cw with
    | .error e => execUndecoded e (s.withInput rest)
    | .ok i => exec i (s.withInput rest)

/-- `s` with the word of the opcode table presented as the very next command. The core fetches no program; the host presents
commands (10 R25, log entry 1). -/
def State.withFetchWord (s : State) (nbits w : Nat) : State := s.present (tableWord nbits w)

end Sys2Proof.Machine
end

