-- ==== Sys2Proof/Machine/Assembler.lean ====
section
/-! DEFINITION. The assembler syntax of the spec (spec/30_encoding.md R67): one line to one command. -/

namespace Sys2Proof.Machine

/-- Why a line does not assemble. -/
inductive AssemblyError where
  /-- The first word is no mnemonic of table R60. -/
  | unknownMnemonic
  /-- The number of operands is not that of the mnemonic's format. -/
  | wrongOperandCount
  /-- The operand is no decimal or `0x` hexadecimal numeral below 2^64. -/
  | badOperand
  deriving DecidableEq, Repr

/-- The 26 commands with the operand field `imm`, in the order of table R60. -/
def allCommands (imm : Word) : List Instr :=
  [.ldmat1 imm, .ldmat2 imm, .ldtmat imm, .seed imm, .seeda imm, .key imm, .step,
   .tu64, .td12, .td01, .tdoo, .tdoc, .td53, .gu64, .gd12, .gd01, .gdoo, .gdoc, .gd53,
   .rds0, .rds1, .rdmat1, .rdmat2, .rdtmat, .rdstat, .rdexp]

/-- The command a mnemonic names, with the operand field `imm`. -/
def commandNamed (name : List Char) (imm : Word) : Option Instr :=
  (allCommands imm).find? fun i => decide (i.mnemonic.toList = name)

/-- The value of a digit, hexadecimal digits in either case (log entry 21). -/
def digitValue (c : Char) : Nat :=
  let n := c.toNat
  if 48 ≤ n ∧ n ≤ 57 then n - 48
  else if 97 ≤ n ∧ n ≤ 102 then n - 87
  else if 65 ≤ n ∧ n ≤ 70 then n - 55
  else 16

/-- A numeral in base `b`, most significant digit first; `acc` is what the digits before stand for. -/
def numeralInBase (b : Nat) : List Char → Nat → Option Nat
  | [], acc => some acc
  | c :: cs, acc => if digitValue c < b then numeralInBase b cs (acc * b + digitValue c) else none

/-- A numeral: `0x` hexadecimal, or decimal (00 R9, 30 R67). -/
def numeral : List Char → Option Nat
  | [] => none
  | '0' :: 'x' :: [] => none
  | '0' :: 'x' :: cs => numeralInBase 16 cs 0
  | cs => numeralInBase 10 cs 0

/-- What stands before the comment (30 R67: `;` starts one). -/
def withoutComment (cs : List Char) : List Char := cs.takeWhile fun c => c ≠ ';'

/-- The words of a line, separated by spaces or tabs (log entry 21); `cur` is the word being read, reversed. -/
def lineWords : List Char → List Char → List (List Char)
  | [], cur => if cur.isEmpty then [] else [cur.reverse]
  | c :: cs, cur =>
    if c = ' ' ∨ c = '\t' then
      if cur.isEmpty then lineWords cs [] else cur.reverse :: lineWords cs []
    else lineWords cs (c :: cur)

/-- A line's command (30 R67): none for a line with no word before its comment. Formats W and D take one operand, format N
none; the operand of format N is assembled as 0 by `encode`. -/
def assembleLine (line : List Char) : Except AssemblyError (Option Instr) :=
  match lineWords (withoutComment line) [] with
  | [] => .ok none
  | [name] =>
    match commandNamed name 0 with
    | none => .error .unknownMnemonic
    | some i => if i.format = .n then .ok (some i) else .error .wrongOperandCount
  | [name, operand] =>
    match commandNamed name 0 with
    | none => .error .unknownMnemonic
    | some i =>
      if i.format = .n then .error .wrongOperandCount
      else
        match numeral operand with
        | none => .error .badOperand
        | some v => if v < 2 ^ 64 then .ok (commandNamed name (BitVec.ofNat 64 v)) else .error .badOperand
  | name :: _ => if (commandNamed name 0).isNone then .error .unknownMnemonic else .error .wrongOperandCount

end Sys2Proof.Machine
end

