-- ==== Sys2Proof/Machine/HostMemory.lean ====
section
/-! DEFINITION. The host's byte memory, which the byte fill writes (spec/00_scope.md R11, spec/20_memory.md R41, R42). It is
no part of the core (20 R40). -/

namespace Sys2Proof.Machine

/-- Host memory: the bytes something has written, addresses strictly rising. An unlisted address has no value (log entry
17), so no entry equals what an unlisted address reads as. -/
abbrev HostMemory := List Host.Cell

/-- The canonical form: addresses strictly rising. -/
def hostMemoryWf (m : HostMemory) : Bool := decide (m.Pairwise fun x y => x.1 < y.1)

/-- `MemRead(addr, 1)`: the byte at `a`, none where nothing has been written. -/
def hostRead : HostMemory → Nat → Option (BitVec 8)
  | [], _ => none
  | (b, w) :: m, a => if a = b then some w else hostRead m a

/-- `MemWrite(addr, 1, v)`, keeping the form. -/
def hostWrite : HostMemory → Nat → BitVec 8 → HostMemory
  | [], a, v => [(a, v)]
  | (b, w) :: m, a, v =>
    if a < b then (a, v) :: (b, w) :: m
    else if a = b then (a, v) :: m
    else (b, w) :: hostWrite m a v

/-- The `n` least significant bytes of `w`, least significant first, at `a` and the addresses after it (20 R42, 46 R146). -/
def hostStore (m : HostMemory) (a : Nat) (w : Word) : Nat → HostMemory
  | 0 => m
  | n + 1 => hostWrite (hostStore m a w n) (a + n) (w.extractLsb' (8 * n) 8)

end Sys2Proof.Machine
end

