-- ==== Sys2Proof/Machine/HostSequences.lean ====
section
/-! DEFINITION. The host sequences (spec/46_host_sequences.md): TMT's public operations as recipes of commands and host
arithmetic. They are no core hardware; they drive the core through its ports alone. -/

namespace Sys2Proof.Machine

/-- The host's side of one core: the core, and the host's memory. -/
structure Session where
  core : State
  mem : HostMemory
  deriving DecidableEq, Repr

/-- Why a host sequence stops. -/
inductive HostError where
  /-- `INVALID_ARGUMENT` (46 R145), found by the host before any command is issued. -/
  | invalidArgument
  /-- `MISSING_BUFFER` (46 R145), found by the host before any command is issued. -/
  | missingBuffer
  /-- The core answered a command of the recipe with this status; a recipe requires `OK` (46, "X <- CMD"; log entry 18). -/
  | coreStatus (st : Status)
  /-- The core gave no response; no state leads here (30 R55). -/
  | noResponse
  deriving DecidableEq, Repr

/-- What a host sequence leaves: the session, and a value or an error. -/
structure Reply (α : Type) where
  session : Session
  result : Except HostError α
  deriving DecidableEq

/-- Go on with the value, or stop at the error. -/
def Reply.andThen {α β : Type} (r : Reply α) (k : Session → α → Reply β) : Reply β :=
  match r.result with
  | .ok a => k r.session a
  | .error e => ⟨r.session, .error e⟩

/-- The value of a reply carried through a function of the host. -/
def Reply.mapValue {α β : Type} (r : Reply α) (f : α → β) : Reply β := r.andThen fun h a => ⟨h, .ok (f a)⟩

/-- What the response to one command tells the host: its data where the status is `OK`. -/
def readResponse (r : Option Response) : Except HostError Word :=
  match r with
  | none => .error .noResponse
  | some r => if r.status = .ok then .ok r.data else .error (.coreStatus r.status)

/-- `X <- CMD operand` (46): present the command word, let the core take it, and read the response. -/
def Session.issue (h : Session) (i : Instr) : Reply Word :=
  match step (h.core.present (encode i)) with
  | .next t => ⟨{ h with core := t }, readResponse t.responses.getLast?⟩
  | .fault _ => ⟨h, .error .noResponse⟩
  | .refused _ => ⟨h, .error .noResponse⟩

/-- The commands of a list issued in order, each required to answer `OK`. -/
def Session.issueAll (h : Session) : List Instr → Reply Unit
  | [] => ⟨h, .ok ()⟩
  | i :: rest => (h.issue i).andThen fun h' _ => h'.issueAll rest

/-! ### Constructors -/

/-- The three parameter loads every constructor starts with (46 R135, R136, R138). -/
def parameterLoads (mat1 mat2 : Half) (tmat : Word) : List Instr :=
  [.ldmat1 (zext64 mat1), .ldmat2 (zext64 mat2), .ldtmat tmat]

/-- `NEWP seed, mat1, mat2, tmat` (46 R136). -/
def hostNewp (h : Session) (seed : Word) (mat1 mat2 : Half) (tmat : Word) : Reply Unit :=
  h.issueAll (parameterLoads mat1 mat2 tmat ++ [.seed seed])

/-- `NEW seed` (46 R135): the default parameters. The loads R135 lets a host omit are always issued. -/
def hostNew (h : Session) (seed : Word) : Reply Unit :=
  hostNewp h seed State.reset.mat1 State.reset.mat2 State.reset.tmat

/-- `NEW` with a signed seed (46 R135): its two's-complement bit pattern (the spec's D23, log entry 15). -/
def hostNewSigned (h : Session) (seed : Int) : Reply Unit := hostNew h (BitVec.ofInt 64 seed)

/-- `NEWRND` (46 R137). `entropy` is what the host draws: any word, so an argument (log entry 15). -/
def hostNewrnd (h : Session) (entropy : Word) : Reply Unit := hostNew h entropy

/-- `NEWAP key, mat1, mat2, tmat` (46 R138). -/
def hostNewap (h : Session) (key : List Word) (mat1 mat2 : Half) (tmat : Word) : Reply Unit :=
  if key.length = 0 ∨ key.length > h.core.config.keylenMax then ⟨h, .error .invalidArgument⟩
  else h.issueAll (parameterLoads mat1 mat2 tmat ++ .seeda (BitVec.ofNat 64 key.length) :: key.map .key)

/-- `NEWA key` (46 R138): the default parameters. -/
def hostNewa (h : Session) (key : List Word) : Reply Unit :=
  hostNewap h key State.reset.mat1 State.reset.mat2 State.reset.tmat

/-! ### Renamings (46 R139) -/

/-- `NEXTU64`. -/
def hostNextU64 (h : Session) : Reply Word := h.issue .gu64

/-- `NEXTDOUBLE`. -/
def hostNextDouble (h : Session) : Reply Word := h.issue .gd53

/-- `NEXTDOUBLE01`. -/
def hostNextDouble01 (h : Session) : Reply Word := h.issue .gd01

/-- `NEXTDOUBLE12`. -/
def hostNextDouble12 (h : Session) : Reply Word := h.issue .gd12

/-- `NEXTDOUBLEOC`. -/
def hostNextDoubleOC (h : Session) : Reply Word := h.issue .gdoc

/-- `NEXTDOUBLEOO`. -/
def hostNextDoubleOO (h : Session) : Reply Word := h.issue .gdoo

/-- `GETEXP`. -/
def hostGetExp (h : Session) : Reply Word := h.issue .rdexp

/-! ### Integers -/

/-- The low 31 bits of an output (46 R140). -/
def lowInt31 (w : Word) : Int := ((w &&& 0x7fffffff).toNat : Int)

/-- `NEXTINT` with no argument (46 R140). -/
def hostNextInt (h : Session) : Reply Int := (h.issue .gu64).mapValue lowInt31

/-- `round53` (46 R141): the nearest number with at most 53 significant bits, ties to even. -/
def round53 (p : Nat) : Nat :=
  if p < 2 ^ 53 then p
  else
    let k := p.log2 - 52
    let q := p >>> k
    let rem := p % 2 ^ k
    let half := 2 ^ (k - 1)
    (if rem > half ∨ (rem = half ∧ q % 2 = 1) then q + 1 else q) * 2 ^ k

/-- `scale_trunc` (46 R141; the arithmetic is the spec's D23, log entry 16). -/
def scaleTrunc (v range : Nat) : Nat := round53 (v * range) / 2 ^ 53

/-- The integer `v` with `d = f64_scaled(v, 53)` (46 R142), read back from the response of `GD53`. -/
def draw53 (d : Word) : Nat :=
  if d = 0 then 0
  else (2 ^ 52 + (d.extractLsb' 0 52).toNat) >>> (1022 - (d.extractLsb' 52 11).toNat)

/-- `NEXTINT max` (46 R142); `max` is a signed 32-bit integer. `max = 0` is accepted (90 C1), and the draw is made whatever
`max` is. -/
def hostNextIntMax (h : Session) (max : Half) : Reply Int :=
  if max.toInt < 0 then ⟨h, .error .invalidArgument⟩
  else (h.issue .gd53).mapValue fun d => (scaleTrunc (draw53 d) max.toInt.toNat : Int)

/-- `NEXTINT min, max` (46 R143); the range is formed exactly. `min = max` is accepted (90 C3). -/
def hostNextIntRange (h : Session) (min max : Half) : Reply Int :=
  if min.toInt > max.toInt then ⟨h, .error .invalidArgument⟩
  else (h.issue .gd53).mapValue fun d => min.toInt + (scaleTrunc (draw53 d) (max.toInt - min.toInt).toNat : Int)

/-! ### Byte fill -/

/-- `n` draws of the byte fill at address `a`, `len` bytes being left to write (46 R146). -/
def fillDraws : Nat → Nat → Nat → Session → Reply Unit
  | 0, _, _, h => ⟨h, .ok ()⟩
  | n + 1, a, len, h =>
    (h.issue .gu64).andThen fun h' w =>
      fillDraws n (a + 8) (len - 8) { h' with mem := hostStore h'.mem a w (min 8 len) }

/-- `NEXTBYTES buf, len` (46 R146): `ceil(len / 8)` draws; an absent buffer is found before any command. -/
def hostNextBytes (h : Session) (buf : Option Nat) (len : Nat) : Reply Unit :=
  match buf with
  | none => ⟨h, .error .missingBuffer⟩
  | some a => fillDraws ((len + 7) / 8) a len h

end Sys2Proof.Machine
end

