-- ==== Sys2Proof/Machine/SeedArrayWhole.lean ====
section
/-! DEFINITION. Array seeding as TMT gives it: one call with the whole key (spec/42_seed_array.md, TMT's steps 1 to 7 as
quoted there), and a list of commands executed one after the other (spec/20_memory.md R50). The core itself streams the key
(42 R85); this form is what the streamed one must agree with. -/

namespace Sys2Proof.Machine

/-- The commands of the list executed in order (20 R50), stopping where one does not give a next state. -/
def execAll : List Instr → State → Result
  | [], s => .next s
  | i :: rest, s =>
    match exec i s with
    | .next t => execAll rest t
    | .fault r => .fault r
    | .refused r => .refused r

/-- Iteration `j` of TMT's steps 3 and 4: step 3 while the key has a word `j`, step 4 from there on. -/
def wholeStep (p : ArraySeedProfile) (key : List Word) (m : SeedBuffer × BitVec 2) (j : Nat) : SeedBuffer × BitVec 2 :=
  match key[j]? with
  | some w => keyStep p w m
  | none => continueStep p m

/-- TMT's `count` after the priming has decremented it (42 R87): `max(keyLength + 1, MIN_LOOP) - 1`, `MIN_LOOP` being 8. -/
def wholeCount (n : Nat) : Nat := max (n + 1) 8 - 1

/-- TMT's array seeding of the whole key: priming, `j` from 0 while `j < count`, four finalisation iterations, collapse,
certification. -/
def seedArrayWhole (c : Config) (mat1 mat2 : Half) (tmat : Word) (key : List Word) : Word × Word :=
  let primed := (primedBuffer c.profile mat1 mat2 tmat (BitVec.ofNat 32 key.length), (1 : BitVec 2))
  let mixed := (List.range (wholeCount key.length)).foldl (wholeStep c.profile key) primed
  collapse c ((finStep c.profile)^[4] mixed).1

/-- The commands of one array seeding (42 R85): `SEEDA n`, then one `KEY` per word, in key order. -/
def arraySeeding (key : List Word) : List Instr :=
  .seeda (BitVec.ofNat 64 key.length) :: key.map .key

end Sys2Proof.Machine
end

