-- ==== Sys2Proof/Safety.lean ====
section
/-! DEFINITION. What claims are stated in: the invariant of a core, what of a state holds a value, and the two tables of the
spec that say how every command ends (spec/10_state.md R24, R33, R36, R38; spec/60_exceptions.md R155). -/

namespace Sys2Proof.Machine

/-- The invariant of a core.
* The parameters of the hardware satisfy their constraints (00 table R8).
* In `READY` the generator state is not the masked-all-zero pair (10 R24).
* In `KEYLOAD` fewer key words than announced have been consumed, the announced length is in range (10 R33), and the rotating
  index has moved with the key index.
* A response with an error status carries data 0 (30 R57). -/
def State.Inv (s : State) : Prop :=
  configValid s.config = true ∧
  (s.phase = .ready → ¬(s.s0 &&& mask = 0 ∧ s.s1 = 0)) ∧
  (s.phase = .keyload →
    s.j.toNat < s.keylen.toNat ∧ s.keylen.toNat ≤ s.config.keylenMax ∧ s.i = 1 + s.j.setWidth 2) ∧
  (∀ r ∈ s.responses, r.status ≠ .ok → r.data = 0)

/-- What of a state holds a value (10 table R36): an element that holds none is absent. -/
structure View where
  mat1 : Half
  mat2 : Half
  tmat : Word
  phase : Phase
  generator : Option (Word × Word)
  keyLoad : Option (SeedBuffer × BitVec 2 × Half × Half)
  config : Config
  deriving DecidableEq, Repr

/-- The elements of `s` that hold a value in its phase (10 table R36). -/
def State.view (s : State) : View where
  mat1 := s.mat1
  mat2 := s.mat2
  tmat := s.tmat
  phase := s.phase
  generator := if s.phase = .ready then some (s.s0, s.s1) else none
  keyLoad := if s.phase = .keyload then some (s.st, s.i, s.j, s.keylen) else none
  config := s.config

/-- The commands that need the generator state (60 table R155, `ERR_UNSEEDED`). -/
def needsGenerator : Instr → Bool
  | .step | .tu64 | .td12 | .td01 | .tdoo | .tdoc | .td53 | .gu64 | .gd12 | .gd01 | .gdoo | .gdoc | .gd53 | .rds0 | .rds1 =>
    true
  | .ldmat1 _ | .ldmat2 _ | .ldtmat _ | .seed _ | .seeda _ | .key _ | .rdmat1 | .rdmat2 | .rdtmat | .rdstat | .rdexp => false

/-- The commands that apply the transition (43 R99): `STEP` and the six generate commands. -/
def advances : Instr → Bool
  | .step | .gu64 | .gd12 | .gd01 | .gdoo | .gdoc | .gd53 => true
  | .ldmat1 _ | .ldmat2 _ | .ldtmat _ | .seed _ | .seeda _ | .key _ | .tu64 | .td12 | .td01 | .tdoo | .tdoc | .td53 | .rds0
  | .rds1 | .rdmat1 | .rdmat2 | .rdtmat | .rdstat | .rdexp => false

/-- The commands that only read (20 R46): they change no state element. -/
def readsOnly : Instr → Bool
  | .tu64 | .td12 | .td01 | .tdoo | .tdoc | .td53 | .rds0 | .rds1 | .rdmat1 | .rdmat2 | .rdtmat | .rdstat | .rdexp => true
  | .ldmat1 _ | .ldmat2 _ | .ldtmat _ | .seed _ | .seeda _ | .key _ | .step | .gu64 | .gd12 | .gd01 | .gdoo | .gdoc | .gd53 =>
    false

/-- `KEY`, the one command that needs a key load in progress (60 table R155, `ERR_SEQ`). -/
def isKey : Instr → Bool
  | .key _ => true
  | .ldmat1 _ | .ldmat2 _ | .ldtmat _ | .seed _ | .seeda _ | .step | .tu64 | .td12 | .td01 | .tdoo | .tdoc | .td53 | .gu64
  | .gd12 | .gd01 | .gdoo | .gdoc | .gd53 | .rds0 | .rds1 | .rdmat1 | .rdmat2 | .rdtmat | .rdstat | .rdexp => false

/-- The status a command ends with (60 table R155), the checks in the order of 60 R161. -/
def statusTable (c : Config) (p : Phase) (i : Instr) : Status :=
  if needsGenerator i = true ∧ p ≠ .ready then .errUnseeded
  else if isKey i = true ∧ p ≠ .keyload then .errSeq
  else if i.wellFormed c = false then .errArg
  else .ok

/-- The phase after a command that succeeds (10 table R38); `last` says whether a key word completes the key load. -/
def phaseTable (last : Bool) (p : Phase) : Instr → Phase
  | .ldmat1 _ | .ldmat2 _ | .ldtmat _ => .unseeded
  | .seed _ => .ready
  | .seeda _ => .keyload
  | .key _ => if last then .ready else .keyload
  | .step | .tu64 | .td12 | .td01 | .tdoo | .tdoc | .td53 | .gu64 | .gd12 | .gd01 | .gdoo | .gdoc | .gd53 | .rds0 | .rds1
  | .rdmat1 | .rdmat2 | .rdtmat | .rdstat | .rdexp => p

/-- The reserved opcodes, range by range as 30 R65 lists them. -/
def reservedOpcode (op : BitVec 8) : Prop :=
  op.toNat ≤ 0x0f ∨ (0x13 ≤ op.toNat ∧ op.toNat ≤ 0x1f) ∨ (0x23 ≤ op.toNat ∧ op.toNat ≤ 0x2f) ∨
  (0x31 ≤ op.toNat ∧ op.toNat ≤ 0x3f) ∨ (0x46 ≤ op.toNat ∧ op.toNat ≤ 0x4f) ∨ (0x56 ≤ op.toNat ∧ op.toNat ≤ 0x5f) ∨
  0x67 ≤ op.toNat

/-- Every word with opcode `op` is the format-N command `i`, whatever its operand field holds (30 R56). -/
def EncodesN (op : BitVec 8) (i : Instr) : Prop := ∀ imm : Word, decode (commandWord op imm) = .ok i

/-- Every word with opcode `op` is the command `f` on its operand field (30 R56, formats W and D). -/
def EncodesOperand (op : BitVec 8) (f : Word → Instr) : Prop := ∀ imm : Word, decode (commandWord op imm) = .ok (f imm)

/-- Each generate command with the temper read of the same function number (30 R59, 44 R111). -/
def generatePairs : List (Instr × Instr) :=
  [(.gu64, .tu64), (.gd12, .td12), (.gd01, .td01), (.gdoo, .tdoo), (.gdoc, .tdoc), (.gd53, .td53)]

/-- The state elements of R156 are those of `s`: everything but the response port. -/
def SameElements (s t : State) : Prop := t = { s with responses := t.responses }

end Sys2Proof.Machine
end

