-- ==== Sys2Proof/Certificates/Slice0/Obligations.lean ====
section
/-! DEFINITION. The statements for the provers, family by family. A statement about an element that holds no value after a
command (10 R36) says nothing about that element. -/

open Sys2Proof Sys2Proof.Machine

/-! ### Encoding -/

/-- Decoding an encoded command gives it back, with every operand at every value (30 R56, R60, R67). -/
def Obligations.DecodeEncodeRoundTrip : Prop := ∀ i : Instr, decode (encode i) = .ok i

/-- Encoding a decoded word keeps the opcode; it gives the word back for formats W and D, and for format N, whose operand field
is ignored, a word with operand 0 (30 R56, R60, R67). -/
def Obligations.EncodeDecodeRoundTrip : Prop :=
  ∀ (cw : CommandWord) (i : Instr), decode cw = .ok i →
    opcodeOf (encode i) = opcodeOf cw ∧ (i.format ≠ .n → encode i = cw) ∧ (i.format = .n → operandOf (encode i) = 0)

/-- The decoder refuses a word exactly when its opcode is reserved, and names the opcode (30 R60, R65). -/
def Obligations.DecoderRefusesExactlyReserved : Prop :=
  ∀ cw : CommandWord,
    (reservedOpcode (opcodeOf cw) → decode cw = .error (.reservedOpcode (opcodeOf cw))) ∧
    (¬reservedOpcode (opcodeOf cw) → ∃ i, decode cw = .ok i ∧ i.opcode = opcodeOf cw)

/-- A command word with a reserved opcode is no command: the decoder refuses it, and the core answers `(ERR_ILLEGAL, 0)` and
changes no state element, whatever the operand and the phase (30 R65). -/
def Obligations.ReservedOpcodeAnswersIllegal : Prop :=
  ∀ (op : BitVec 8) (imm : Word), reservedOpcode op →
    decode (commandWord op imm) = .error (.reservedOpcode op) ∧
    ∀ (s : State) (rest : List PortInput), s.input = .command (commandWord op imm) :: rest →
      step s = .next { s with input := rest, responses := s.responses ++ [⟨.errIllegal, 0⟩] }

/-- Words written out from table R60, one of each family, decode to what they stand for; the first three are the examples of
30 R67. -/
def Obligations.SampleWordsDecode : Prop :=
  decode 0x1000000000fa051f40 = .ok (.ldmat1 0xfa051f40) ∧
  decode 0x200000000000000001 = .ok (.seed 1) ∧
  decode 0x500000000000000000 = .ok .gu64 ∧
  decode 0x22ffffffffffffffff = .ok (.key 0xffffffffffffffff) ∧
  decode 0x3000000000deadbeef = .ok .step ∧
  decode 0x440000000000000000 = .ok .tdoc ∧
  decode 0x660000000000000000 = .ok .rdexp

/-- The response word: status in bits 67:64 with the codes of 30 R57, data in bits 63:0. -/
def Obligations.ResponseWordLayout : Prop :=
  ∀ (st : Status) (d : Word),
    (responseWord ⟨st, d⟩).extractLsb' 0 64 = d ∧
    (responseWord ⟨st, d⟩).extractLsb' 64 4 =
      (match st with | .ok => 0#4 | .errIllegal => 1#4 | .errArg => 2#4 | .errUnseeded => 3#4 | .errSeq => 4#4)

/-! ### Steps and reset -/

/-- When the host presents a word that decodes to `i`, the step is `exec i` at the state with that word taken
(30 R61, 20 R50; the input stream is log entry 1). -/
def Obligations.StepRunsDecodedCommand : Prop :=
  ∀ (s : State) (cw : CommandWord) (rest : List PortInput) (i : Instr),
    s.input = .command cw :: rest → decode cw = .ok i → step s = exec i { s with input := rest }

/-- The model's choice (log entry 6): with nothing presented the core is idle and holds its state (60 R173). -/
def Obligations.IdleStepHoldsState : Prop := ∀ s : State, s.input = [] → step s = .next s

/-- RESET puts any state in the reset state and produces no response; the parameters of the hardware and the rest of the input
stay (70 R180, R181, 10 R35; the input stream is log entry 1). -/
def Obligations.ResetInputGivesResetState : Prop :=
  ∀ (s : State) (rest : List PortInput), s.input = .reset :: rest →
    ∃ t, step s = .next t ∧ t.phase = .unseeded ∧ t.mat1 = 0xfa051f40 ∧ t.mat2 = 0xffd0fff4 ∧
      t.tmat = 0x58d02ffeffbfffbc ∧ t.config = s.config ∧ t.input = rest ∧ t.responses = s.responses

/-- The values table R35 gives the reset state (10 R35, 70 R180), with nothing presented and nothing answered (log entries 1
and 2). -/
def Obligations.ResetStateValues : Prop :=
  State.reset.phase = .unseeded ∧ State.reset.mat1 = 0xfa051f40 ∧ State.reset.mat2 = 0xffd0fff4 ∧
  State.reset.tmat = 0x58d02ffeffbfffbc ∧ State.reset.input = [] ∧ State.reset.responses = []

/-- No state is stuck: every step gives a next state, and every command word presented is answered by exactly one response,
after those before it, whose data is 0 when its status is not `OK` (60 R157, 30 R55, R57). -/
def Obligations.EveryCommandAnsweredOnce : Prop :=
  ∀ s : State, ∃ t, step s = .next t ∧
    ∀ (cw : CommandWord) (rest : List PortInput), s.input = .command cw :: rest →
      t.input = rest ∧ ∃ r, t.responses = s.responses ++ [r] ∧ (r.status ≠ .ok → r.data = 0)

/-! ### Parameter loads -/

/-- `LDMAT1` (40 R75). -/
def Obligations.LoadMat1Result : Prop :=
  EncodesOperand 0x10 .ldmat1 ∧
  ∀ (imm : Word) (s : State),
    (imm.extractLsb' 32 32 ≠ 0 →
      exec (.ldmat1 imm) s = .next { s with responses := s.responses ++ [⟨.errArg, 0⟩] }) ∧
    (imm.extractLsb' 32 32 = 0 →
      ∃ t, exec (.ldmat1 imm) s = .next t ∧ t.mat1 = imm.extractLsb' 0 32 ∧ t.phase = .unseeded ∧
        t.mat2 = s.mat2 ∧ t.tmat = s.tmat ∧ t.config = s.config ∧ t.input = s.input ∧
        t.responses = s.responses ++ [⟨.ok, 0⟩])

/-- `LDMAT2` (40 R76). -/
def Obligations.LoadMat2Result : Prop :=
  EncodesOperand 0x11 .ldmat2 ∧
  ∀ (imm : Word) (s : State),
    (imm.extractLsb' 32 32 ≠ 0 →
      exec (.ldmat2 imm) s = .next { s with responses := s.responses ++ [⟨.errArg, 0⟩] }) ∧
    (imm.extractLsb' 32 32 = 0 →
      ∃ t, exec (.ldmat2 imm) s = .next t ∧ t.mat2 = imm.extractLsb' 0 32 ∧ t.phase = .unseeded ∧
        t.mat1 = s.mat1 ∧ t.tmat = s.tmat ∧ t.config = s.config ∧ t.input = s.input ∧
        t.responses = s.responses ++ [⟨.ok, 0⟩])

/-- `LDTMAT` (40 R77). -/
def Obligations.LoadTmatResult : Prop :=
  EncodesOperand 0x12 .ldtmat ∧
  ∀ (imm : Word) (s : State),
    ∃ t, exec (.ldtmat imm) s = .next t ∧ t.tmat = imm ∧ t.phase = .unseeded ∧
      t.mat1 = s.mat1 ∧ t.mat2 = s.mat2 ∧ t.config = s.config ∧ t.input = s.input ∧
      t.responses = s.responses ++ [⟨.ok, 0⟩]

/-- A parameter changes by its own load and by nothing else a command does, and no generator instance sees one change: where
the phase after a command is `READY`, the three parameters are those before it. The hardware's parameters never change
(10 R27, R34, R37; 20 R53). -/
def Obligations.ParametersFixedWhileGeneratorLives : Prop :=
  ∀ (i : Instr) (s t : State), exec i s = .next t →
    t.config = s.config ∧
    ((∀ w, i ≠ .ldmat1 w) → t.mat1 = s.mat1) ∧
    ((∀ w, i ≠ .ldmat2 w) → t.mat2 = s.mat2) ∧
    ((∀ w, i ≠ .ldtmat w) → t.tmat = s.tmat) ∧
    (t.phase = .ready → t.mat1 = s.mat1 ∧ t.mat2 = s.mat2 ∧ t.tmat = s.tmat)

/-! ### Seeding -/

/-- `SEED` (41 R80, R83): the seven iterations written out, then certification; accepted in every phase. -/
def Obligations.SeedResult : Prop :=
  EncodesOperand 0x20 .seed ∧
  ∀ (imm : Word) (s : State),
    let term := fun (k y : Word) => k + 6364136223846793005 * (y ^^^ (y >>> 62))
    let a0 := imm ^^^ (s.mat1.setWidth 64 <<< 32)
    let b0 := s.mat2.setWidth 64 ^^^ s.tmat
    let b1 := b0 ^^^ term 1 a0
    let a2 := a0 ^^^ term 2 b1
    let b3 := b1 ^^^ term 3 a2
    let a4 := a2 ^^^ term 4 b3
    let b5 := b3 ^^^ term 5 a4
    let a6 := a4 ^^^ term 6 b5
    let b7 := b5 ^^^ term 7 a6
    ∃ t, exec (.seed imm) s = .next t ∧
      (t.s0, t.s1) =
        (if a6 &&& 0x7fffffffffffffff = 0 ∧ b7 = 0 then (s.config.certS0, s.config.certS1) else (a6, b7)) ∧
      t.phase = .ready ∧ t.mat1 = s.mat1 ∧ t.mat2 = s.mat2 ∧ t.tmat = s.tmat ∧ t.config = s.config ∧
      t.input = s.input ∧ t.responses = s.responses ++ [⟨.ok, 0⟩]

/-- Certification rewrites exactly the pairs that are zero in the 127 significant bits, and with a legal sentinel its result is
never such a pair (41 R83). -/
def Obligations.CertificationRemovesDegeneratePair : Prop :=
  ∀ (c : Config) (a b : Word),
    (a &&& 0x7fffffffffffffff = 0 ∧ b = 0 → certify c a b = (c.certS0, c.certS1)) ∧
    (¬(a &&& 0x7fffffffffffffff = 0 ∧ b = 0) → certify c a b = (a, b)) ∧
    (configValid c = true →
      ¬((certify c a b).1 &&& 0x7fffffffffffffff = 0 ∧ (certify c a b).2 = 0))

/-- `SEEDA` (42 R86, R88, R89): the priming under both profiles; a length outside 1 to `KEYLEN_MAX` is refused. The slot
`ST[3]` and the parameters are as the rule leaves them. -/
def Obligations.SeedaResult : Prop :=
  EncodesOperand 0x21 .seeda ∧
  ∀ (imm : Word) (s : State),
    (imm = 0 ∨ imm.toNat > s.config.keylenMax →
      exec (.seeda imm) s = .next { s with responses := s.responses ++ [⟨.errArg, 0⟩] }) ∧
    (¬(imm = 0 ∨ imm.toNat > s.config.keylenMax) →
      let x := s.mat1.setWidth 64 ^^^ s.tmat
      let r := (x ^^^ (x >>> 59)) * 2173292883993
      let n : Half := imm.extractLsb' 0 32
      let f := match s.config.profile with | .doc => r | .ref => r + n.setWidth 64
      ∃ t, exec (.seeda imm) s = .next t ∧ t.keylen = n ∧
        t.st = ⟨f, s.mat1.setWidth 64 + r, s.mat2.setWidth 64 + f, s.tmat⟩ ∧ t.i = 1 ∧ t.j = 0 ∧ t.phase = .keyload ∧
        t.mat1 = s.mat1 ∧ t.mat2 = s.mat2 ∧ t.tmat = s.tmat ∧ t.config = s.config ∧ t.input = s.input ∧
        t.responses = s.responses ++ [⟨.ok, 0⟩])

/-- `KEY` (42 R90): outside `KEYLOAD` it is refused; a word that is not the last mixes once; the last word also runs the
continuation and finalisation passes, the collapse and the certification. -/
def Obligations.KeyResult : Prop :=
  EncodesOperand 0x22 .key ∧
  ∀ (w : Word) (s : State),
    let p := s.config.profile
    let mixed := mixStep p (w + s.i.setWidth 64) (s.st, s.i)
    (s.phase ≠ .keyload → exec (.key w) s = .next { s with responses := s.responses ++ [⟨.errSeq, 0⟩] }) ∧
    (s.phase = .keyload ∧ s.j + 1 ≠ s.keylen →
      exec (.key w) s =
        .next { s with st := mixed.1, i := mixed.2, j := s.j + 1, responses := s.responses ++ [⟨.ok, 0⟩] }) ∧
    (s.phase = .keyload ∧ s.j + 1 = s.keylen →
      let continued := (fun m => mixStep p (m.2.setWidth 64) m)^[7 - s.keylen.toNat] mixed
      let finished := ((finStep p)^[4] continued).1
      ∃ t, exec (.key w) s = .next t ∧
        (t.s0, t.s1) = certify s.config (finished.st0 ^^^ finished.st1) (finished.st2 ^^^ finished.st3) ∧
        t.phase = .ready ∧ t.mat1 = s.mat1 ∧ t.mat2 = s.mat2 ∧ t.tmat = s.tmat ∧ t.config = s.config ∧
        t.input = s.input ∧ t.responses = s.responses ++ [⟨.ok, 0⟩])

/-- `mixstep(add)`, slot by slot (42 R91, R88, R89). -/
def Obligations.MixStepSlots : Prop :=
  ∀ (p : ArraySeedProfile) (add : Word) (b : SeedBuffer) (k : BitVec 2),
    let x := b.get k ^^^ b.get (k + 1) ^^^ b.get (k + 3)
    let r := (x ^^^ (x >>> 59)) * 2173292883993
    let f := r + add
    let m := mixStep p add (b, k)
    m.1.get (k + 1) = b.get (k + 1) + r ∧
    m.1.get (k + 2) = b.get (k + 2) + f ∧
    m.1.get (k + 3) = b.get (k + 3) ∧
    m.1.get k = (match p with | .doc => r | .ref => f) ∧
    m.2 = k + 1

/-- `finstep()`, slot by slot (42 R92, R88, R89). -/
def Obligations.FinStepSlots : Prop :=
  ∀ (p : ArraySeedProfile) (b : SeedBuffer) (k : BitVec 2),
    let x := b.get k + b.get (k + 1) + b.get (k + 3)
    let r := (x ^^^ (x >>> 59)) * 58885565329898161
    let f := r - k.setWidth 64
    let m := finStep p (b, k)
    m.1.get (k + 1) = b.get (k + 1) ^^^ r ∧
    m.1.get (k + 2) = b.get (k + 2) ^^^ f ∧
    m.1.get (k + 3) = b.get (k + 3) ∧
    m.1.get k = (match p with | .doc => r | .ref => f) ∧
    m.2 = k + 1

/-- The streamed array seeding is TMT's array seeding of the whole key (42 R85, R87, R93): from any state, `SEEDA n` and the
`n` key words in order all answer `OK` and leave the generator `READY` with the state the whole-key algorithm gives. -/
def Obligations.StreamedKeyLoadEqualsWholeKey : Prop :=
  ∀ (s : State) (key : List Word),
    configValid s.config = true → 1 ≤ key.length → key.length ≤ s.config.keylenMax →
      ∃ t, execAll (arraySeeding key) s = .next t ∧ t.phase = .ready ∧
        (t.s0, t.s1) = seedArrayWhole s.config s.mat1 s.mat2 s.tmat key ∧
        t.mat1 = s.mat1 ∧ t.mat2 = s.mat2 ∧ t.tmat = s.tmat ∧ t.config = s.config ∧ t.input = s.input ∧
        t.responses = s.responses ++ List.replicate (key.length + 1) ⟨.ok, 0⟩

/-- Repeating a parameter load or a seeding at once leaves every element that holds a value as it was (20 R46). -/
def Obligations.LoadsAndSeedIdempotent : Prop :=
  ∀ (i : Instr) (w : Word), i = .ldmat1 w ∨ i = .ldmat2 w ∨ i = .ldtmat w ∨ i = .seed w →
    ∀ s : State, ∃ t u, exec i s = .next t ∧ exec i t = .next u ∧ u.view = t.view

/-! ### The transition -/

/-- `STEP` (43 R95, R96): the transition written out. -/
def Obligations.StepResult : Prop :=
  EncodesN 0x30 .step ∧
  ∀ s : State,
    (s.phase ≠ .ready → exec .step s = .next { s with responses := s.responses ++ [⟨.errUnseeded, 0⟩] }) ∧
    (s.phase = .ready →
      let x0 := (s.s0 &&& 0x7fffffffffffffff) ^^^ s.s1
      let x1 := x0 ^^^ (x0 <<< 12)
      let x2 := x1 ^^^ (x1 >>> 32)
      let x3 := x2 ^^^ (x2 <<< 32)
      let x := x3 ^^^ (x3 <<< 11)
      exec .step s =
        .next { s with
          s0 := if x.getLsbD 0 = true then s.s1 ^^^ s.mat1.setWidth 64 else s.s1
          s1 := if x.getLsbD 0 = true then x ^^^ (s.mat2.setWidth 64 <<< 32) else x
          responses := s.responses ++ [⟨.ok, 0⟩] })

/-- The transition is injective on the 127 significant bits, for every `MAT1`, `MAT2` (the spec's inference 43 R98 (c)). -/
def Obligations.TransitionInjective : Prop :=
  ∀ (a0 a1 b0 b1 : Word) (mat1 mat2 : Half),
    (nextState a0 a1 mat1 mat2).1 &&& mask = (nextState b0 b1 mat1 mat2).1 &&& mask →
    (nextState a0 a1 mat1 mat2).2 = (nextState b0 b1 mat1 mat2).2 →
      a0 &&& mask = b0 &&& mask ∧ a1 = b1

/-- The transition ignores bit 63 of `S0`, keeps the masked-all-zero pair at zero, and puts the old bit 63 of `S1` in bit 63
of the new `S0` (the spec's inferences 43 R98 (a), (b) and 10 R23 (b)). -/
def Obligations.TransitionSignificantBits : Prop :=
  ∀ (s0 s1 : Word) (mat1 mat2 : Half),
    nextState (s0 ^^^ 0x8000000000000000) s1 mat1 mat2 = nextState s0 s1 mat1 mat2 ∧
    (s0 &&& mask = 0 ∧ s1 = 0 → nextState s0 s1 mat1 mat2 = (0, 0)) ∧
    (nextState s0 s1 mat1 mat2).1.getLsbD 63 = s1.getLsbD 63

/-- The transition is linear over GF(2) for fixed parameters (the spec's inference 43 R98 (d)). -/
def Obligations.TransitionLinear : Prop :=
  ∀ (a0 a1 b0 b1 : Word) (mat1 mat2 : Half),
    nextState (a0 ^^^ b0) (a1 ^^^ b1) mat1 mat2 =
      ((nextState a0 a1 mat1 mat2).1 ^^^ (nextState b0 b1 mat1 mat2).1,
       (nextState a0 a1 mat1 mat2).2 ^^^ (nextState b0 b1 mat1 mat2).2)

/-- While the generator stays `READY` and is not seeded anew, `S0`, `S1` change only by the transition: once by `STEP` and by
each generate command, and not at all by any other command (43 R99). -/
def Obligations.GeneratorMovesOnlyByTransition : Prop :=
  ∀ (i : Instr) (s t : State),
    s.phase = .ready → (∀ w, i ≠ .seed w) → exec i s = .next t → t.phase = .ready →
      (t.s0, t.s1) = if advances i = true then nextState s.s0 s.s1 s.mat1 s.mat2 else (s.s0, s.s1)

/-! ### The tempering unit -/

/-- The tempering functions (44 R100, R101, R102). -/
def Obligations.TemperingFunctions : Prop :=
  ∀ s0 s1 tmat : Word,
    let x := (s0 + s1) ^^^ (s0 >>> 8)
    let u := if x.getLsbD 0 = true then x ^^^ tmat else x
    temperX s0 s1 = x ∧ temperU64 s0 s1 tmat = u ∧
    temperDoubleConv s0 s1 tmat = (u >>> 12) ||| 0x3ff0000000000000 ∧
    temperDoubleConvOpen s0 s1 tmat = (u >>> 12) ||| 0x3ff0000000000001

/-- The six temper reads (44 R104, R106 to R110): in `READY` they answer their value and change nothing; otherwise
`ERR_UNSEEDED`. -/
def Obligations.TemperReadResults : Prop :=
  (EncodesN 0x40 .tu64 ∧ EncodesN 0x41 .td12 ∧ EncodesN 0x42 .td01 ∧ EncodesN 0x43 .tdoo ∧ EncodesN 0x44 .tdoc ∧
    EncodesN 0x45 .td53) ∧
  ∀ s : State,
    (s.phase ≠ .ready →
      ∀ i ∈ [Instr.tu64, .td12, .td01, .tdoo, .tdoc, .td53],
        exec i s = .next { s with responses := s.responses ++ [⟨.errUnseeded, 0⟩] }) ∧
    (s.phase = .ready →
      let u := temperU64 s.s0 s.s1 s.tmat
      let m := (u.extractLsb' 12 52).toNat
      let v := (u.extractLsb' 11 53).toNat
      exec .tu64 s = .next { s with responses := s.responses ++ [⟨.ok, u⟩] } ∧
      exec .td12 s = .next { s with responses := s.responses ++ [⟨.ok, temperDoubleConv s.s0 s.s1 s.tmat⟩] } ∧
      exec .td01 s = .next { s with responses := s.responses ++ [⟨.ok, f64Scaled m 52⟩] } ∧
      exec .tdoo s = .next { s with responses := s.responses ++ [⟨.ok, f64Scaled (m ||| 1) 52⟩] } ∧
      exec .tdoc s = .next { s with responses := s.responses ++ [⟨.ok, f64Scaled (2 ^ 52 - m) 52⟩] } ∧
      exec .td53 s = .next { s with responses := s.responses ++ [⟨.ok, f64Scaled v 53⟩] })

/-- The six generate commands (44 R111 to R117): in `READY` one transition, then the value of the new state; otherwise
`ERR_UNSEEDED` and no transition. -/
def Obligations.GenerateResults : Prop :=
  (EncodesN 0x50 .gu64 ∧ EncodesN 0x51 .gd12 ∧ EncodesN 0x52 .gd01 ∧ EncodesN 0x53 .gdoo ∧ EncodesN 0x54 .gdoc ∧
    EncodesN 0x55 .gd53) ∧
  ∀ s : State,
    (s.phase ≠ .ready →
      ∀ i ∈ [Instr.gu64, .gd12, .gd01, .gdoo, .gdoc, .gd53],
        exec i s = .next { s with responses := s.responses ++ [⟨.errUnseeded, 0⟩] }) ∧
    (s.phase = .ready →
      let n := nextState s.s0 s.s1 s.mat1 s.mat2
      let u := temperU64 n.1 n.2 s.tmat
      let m := (u.extractLsb' 12 52).toNat
      let v := (u.extractLsb' 11 53).toNat
      let after := fun d : Word => { s with s0 := n.1, s1 := n.2, responses := s.responses ++ [⟨.ok, d⟩] }
      exec .gu64 s = .next (after u) ∧
      exec .gd12 s = .next (after (temperDoubleConv n.1 n.2 s.tmat)) ∧
      exec .gd01 s = .next (after (f64Scaled m 52)) ∧
      exec .gdoo s = .next (after (f64Scaled (m ||| 1) 52)) ∧
      exec .gdoc s = .next (after (f64Scaled (2 ^ 52 - m) 52)) ∧
      exec .gd53 s = .next (after (f64Scaled v 53)))

/-- A generate command is `STEP` followed by the temper read with the same function number, but for its single response
(44 R111, 30 R59). -/
def Obligations.GenerateIsStepThenTemper : Prop :=
  ∀ p ∈ generatePairs, p.1.opcode = p.2.opcode + 0x10 ∧
    ∀ s : State, s.phase = .ready →
      ∃ u v r, exec .step s = .next u ∧ exec p.2 u = .next v ∧ v.responses = u.responses ++ [r] ∧
        exec p.1 s = .next { v with responses := s.responses ++ [r] }

/-! ### Doubles -/

/-- `f64_scaled(n, s)` is the pattern of exactly `n * 2^(-s)` on its domain (00 R13, R12; the IEEE layout is log entry 9). -/
def Obligations.ScaledDoubleIsExact : Prop :=
  ∀ n : Nat,
    (n ≤ 2 ^ 52 → doubleValue (f64Scaled n 52) = some ((n : ℚ) / 2 ^ 52)) ∧
    (n ≤ 2 ^ 53 - 1 → doubleValue (f64Scaled n 53) = some ((n : ℚ) / 2 ^ 53))

/-- The ranges of the double outputs, for every state and every `TMAT` (the spec's inference 44 R118 from R105 to R110; the
IEEE layout is log entry 9). -/
def Obligations.DoubleOutputRanges : Prop :=
  ∀ s0 s1 tmat : Word,
    (∃ x, doubleValue (temperDoubleConv s0 s1 tmat) = some x ∧ 1 ≤ x ∧ x ≤ 2 - 1 / 2 ^ 52) ∧
    (∃ x, doubleValue (temperDouble01 s0 s1 tmat) = some x ∧ 0 ≤ x ∧ x ≤ 1 - 1 / 2 ^ 52) ∧
    (∃ x, doubleValue (temperDoubleOO s0 s1 tmat) = some x ∧ 1 / 2 ^ 52 ≤ x ∧ x ≤ 1 - 1 / 2 ^ 52) ∧
    (∃ x, doubleValue (temperDoubleOC s0 s1 tmat) = some x ∧ 1 / 2 ^ 52 ≤ x ∧ x ≤ 1) ∧
    (∃ x, doubleValue (temperDouble53 s0 s1 tmat) = some x ∧ 0 ≤ x ∧ x ≤ 1 - 1 / 2 ^ 53)

/-- The double outputs are the exact results of the floating-point operations TMT words (44 R105; the IEEE layout is log entry
9): minus 1.0 on the two conversions, 2.0 minus the first, and the shifted integer over 2^53. -/
def Obligations.DoubleOutputsAreExactOperations : Prop :=
  ∀ s0 s1 tmat : Word,
    ∃ conv convOpen d01 dOO dOC d53 : ℚ,
      doubleValue (temperDoubleConv s0 s1 tmat) = some conv ∧
      doubleValue (temperDoubleConvOpen s0 s1 tmat) = some convOpen ∧
      doubleValue (temperDouble01 s0 s1 tmat) = some d01 ∧
      doubleValue (temperDoubleOO s0 s1 tmat) = some dOO ∧
      doubleValue (temperDoubleOC s0 s1 tmat) = some dOC ∧
      doubleValue (temperDouble53 s0 s1 tmat) = some d53 ∧
      conv = 1 + (((temperU64 s0 s1 tmat) >>> 12).toNat : ℚ) / 2 ^ 52 ∧
      d01 = conv - 1 ∧ dOO = convOpen - 1 ∧ dOC = 2 - conv ∧
      d53 = (((temperU64 s0 s1 tmat) >>> 11).toNat : ℚ) / 2 ^ 53

/-! ### Register reads -/

/-- `RDS0`, `RDS1` (45 R125, R126). -/
def Obligations.StatusWordReads : Prop :=
  EncodesN 0x60 .rds0 ∧ EncodesN 0x61 .rds1 ∧
  ∀ s : State,
    (s.phase ≠ .ready →
      exec .rds0 s = .next { s with responses := s.responses ++ [⟨.errUnseeded, 0⟩] } ∧
      exec .rds1 s = .next { s with responses := s.responses ++ [⟨.errUnseeded, 0⟩] }) ∧
    (s.phase = .ready →
      exec .rds0 s = .next { s with responses := s.responses ++ [⟨.ok, s.s0⟩] } ∧
      exec .rds1 s = .next { s with responses := s.responses ++ [⟨.ok, s.s1⟩] })

/-- `RDMAT1`, `RDMAT2`, `RDTMAT` (45 R127, R128, R129): accepted in every phase. -/
def Obligations.ParameterReads : Prop :=
  EncodesN 0x62 .rdmat1 ∧ EncodesN 0x63 .rdmat2 ∧ EncodesN 0x64 .rdtmat ∧
  ∀ s : State,
    exec .rdmat1 s = .next { s with responses := s.responses ++ [⟨.ok, s.mat1.setWidth 64⟩] } ∧
    exec .rdmat2 s = .next { s with responses := s.responses ++ [⟨.ok, s.mat2.setWidth 64⟩] } ∧
    exec .rdtmat s = .next { s with responses := s.responses ++ [⟨.ok, s.tmat⟩] }

/-- `RDSTAT`, `RDEXP` (45 R130, R131; 10 R31): the phase in bits 1:0 with zeros above, and the constant 127. -/
def Obligations.StatAndExponentReads : Prop :=
  EncodesN 0x65 .rdstat ∧ EncodesN 0x66 .rdexp ∧
  ∀ s : State,
    exec .rdstat s =
      .next { s with
        responses :=
          s.responses ++ [⟨.ok, match s.phase with | .unseeded => 0 | .keyload => 1 | .ready => 2⟩] } ∧
    exec .rdexp s = .next { s with responses := s.responses ++ [⟨.ok, 127⟩] }

/-- A read-only command changes no state element, and repeated at once it gets the same response (20 R46). -/
def Obligations.ReadsChangeNothing : Prop :=
  ∀ (i : Instr) (s : State), readsOnly i = true →
    ∃ t u r, exec i s = .next t ∧ SameElements s t ∧ t.responses = s.responses ++ [r] ∧
      exec i t = .next u ∧ SameElements t u ∧ u.responses = t.responses ++ [r]

/-! ### The whole machine -/

/-- An error changes nothing (60 R156): where the response to a command word has a status other than `OK`, its data is 0 and
every state element is what it was. -/
def Obligations.ErrorChangesNothing : Prop :=
  ∀ (s t : State) (cw : CommandWord) (rest : List PortInput) (r : Response),
    s.input = .command cw :: rest → step s = .next t → t.responses = s.responses ++ [r] → r.status ≠ .ok →
      r.data = 0 ∧ t = { s with input := rest, responses := s.responses ++ [r] }

/-- Every command word ends with the status table R155 gives it (60 R155, R158): `ERR_ILLEGAL` for a reserved opcode, and for
a command `OK` exactly where no cause of an error holds; the data of an error is 0. -/
def Obligations.StatusFollowsErrorTable : Prop :=
  ∀ (s : State) (cw : CommandWord) (rest : List PortInput), s.input = .command cw :: rest →
    let status := match decode cw with
      | .error _ => Status.errIllegal
      | .ok i => statusTable s.config s.phase i
    ∃ t d, step s = .next t ∧ t.responses = s.responses ++ [⟨status, d⟩] ∧ (status ≠ .ok → d = 0)

/-- At most one cause of an error holds for a command, so the order of the checks cannot be seen (60 R162). -/
def Obligations.ErrorCausesExclude : Prop :=
  ∀ (c : Config) (i : Instr),
    ¬(needsGenerator i = true ∧ isKey i = true) ∧
    (needsGenerator i = true ∨ isKey i = true → i.wellFormed c = true)

/-- The phase after every command is the one table R38 gives (10 R38): its row where the command succeeds, the phase before
where it raises an error. The premise is the clause of the invariant that bounds `J` (10 R33), for the row of `KEY`. -/
def Obligations.PhaseFollowsPhaseTable : Prop :=
  ∀ (i : Instr) (s : State),
    (s.phase = .keyload → s.j.toNat < s.keylen.toNat) →
      ∃ t, exec i s = .next t ∧
        t.phase =
          if statusTable s.config s.phase i = .ok then
            phaseTable (decide (¬s.j.toNat + 1 < s.keylen.toNat)) s.phase i
          else s.phase

/-- Every step keeps the invariant: legal parameters, no degenerate generator state, a key load within its bounds, error
responses with data 0 (10 R24, R33; 30 R57). -/
def Obligations.StepKeepsInvariant : Prop := ∀ s t : State, s.Inv → step s = .next t → t.Inv

/-- The reset state meets the invariant. It rests on the recommended parameters of log entry 5 (00 R8). -/
def Obligations.ResetMeetsInvariant : Prop := State.reset.Inv

/-- What holds no value cannot be observed (10 R35, R36): two states that agree on everything that holds a value, with the same
input, are answered alike and agree again, whatever their other elements hold. -/
def Obligations.ValuesNotHeldAreUnobservable : Prop :=
  ∀ s t : State, s.view = t.view → s.input = t.input →
    ∃ s' t' new, step s = .next s' ∧ step t = .next t' ∧ s'.view = t'.view ∧ s'.input = t'.input ∧
      s'.responses = s.responses ++ new ∧ t'.responses = t.responses ++ new

/-! ### Host sequences -/

/-- `NEWP` (46 R136), and so `NEW` (R135): all four commands answer `OK` and the core is `READY` with the state scalar seeding
gives for the parameters supplied. -/
def Obligations.NewpConstructs : Prop :=
  ∀ (h : Session) (seed : Word) (mat1 mat2 : Half) (tmat : Word),
    ∃ h', hostNewp h seed mat1 mat2 tmat = ⟨h', .ok ()⟩ ∧ h'.mem = h.mem ∧ h'.core.input = h.core.input ∧
      h'.core.phase = .ready ∧ h'.core.mat1 = mat1 ∧ h'.core.mat2 = mat2 ∧ h'.core.tmat = tmat ∧
      (h'.core.s0, h'.core.s1) = seedScalar h.core.config mat1 mat2 tmat seed

/-- `NEWAP` (46 R138): a key of legal length is loaded whole; an empty or over-long one is refused by the host before any
command. -/
def Obligations.NewapConstructs : Prop :=
  ∀ (h : Session) (key : List Word) (mat1 mat2 : Half) (tmat : Word), configValid h.core.config = true →
    (key.length = 0 ∨ key.length > h.core.config.keylenMax →
      hostNewap h key mat1 mat2 tmat = ⟨h, .error .invalidArgument⟩) ∧
    (¬(key.length = 0 ∨ key.length > h.core.config.keylenMax) →
      ∃ h', hostNewap h key mat1 mat2 tmat = ⟨h', .ok ()⟩ ∧ h'.mem = h.mem ∧ h'.core.input = h.core.input ∧
        h'.core.phase = .ready ∧ h'.core.mat1 = mat1 ∧ h'.core.mat2 = mat2 ∧ h'.core.tmat = tmat ∧
        (h'.core.s0, h'.core.s1) = seedArrayWhole h.core.config mat1 mat2 tmat key)

/-- The operations that are one command (46 R139): in `READY` each `NEXT*` makes one transition and returns its output of the
new state, and `GETEXP` makes none and returns 127; host memory is not touched. -/
def Obligations.RenamedOperations : Prop :=
  ∀ h : Session, h.core.phase = .ready →
    let n := nextState h.core.s0 h.core.s1 h.core.mat1 h.core.mat2
    let u := temperU64 n.1 n.2 h.core.tmat
    let m := (u.extractLsb' 12 52).toNat
    let returns := fun (r : Reply Word) (state : Word × Word) (d : Word) =>
      r.result = .ok d ∧ (r.session.core.s0, r.session.core.s1) = state ∧ r.session.core.phase = .ready ∧
        r.session.core.tmat = h.core.tmat ∧ r.session.mem = h.mem
    returns (hostNextU64 h) n u ∧
    returns (hostNextDouble h) n (f64Scaled (u.extractLsb' 11 53).toNat 53) ∧
    returns (hostNextDouble01 h) n (f64Scaled m 52) ∧
    returns (hostNextDouble12 h) n ((u >>> 12) ||| 0x3ff0000000000000) ∧
    returns (hostNextDoubleOC h) n (f64Scaled (2 ^ 52 - m) 52) ∧
    returns (hostNextDoubleOO h) n (f64Scaled (m ||| 1) 52) ∧
    returns (hostGetExp h) (h.core.s0, h.core.s1) 127

/-- `NEXTINT` with no argument (46 R140): the low 31 bits of one output, in 0 to 2^31 - 1, one transition. -/
def Obligations.NextIntLowBits : Prop :=
  ∀ h : Session, h.core.phase = .ready →
    ∃ h' v, hostNextInt h = ⟨h', .ok v⟩ ∧ h'.mem = h.mem ∧
      (h'.core.s0, h'.core.s1) = nextState h.core.s0 h.core.s1 h.core.mat1 h.core.mat2 ∧
      v = ((temperU64 h'.core.s0 h'.core.s1 h.core.tmat).extractLsb' 0 31).toNat ∧ 0 ≤ v ∧ v ≤ 2 ^ 31 - 1

/-- `scale_trunc` stays below a positive range of at most 32 bits and is 0 for range 0 (the spec's inference in 46 R141; the
arithmetic is log entry 16). -/
def Obligations.ScaleTruncBelowRange : Prop :=
  ∀ v range : Nat, v < 2 ^ 53 → range ≤ 2 ^ 32 - 1 →
    (0 < range → scaleTrunc v range < range) ∧ (range = 0 → scaleTrunc v range = 0)

/-- The host reads back from a `GD53` response the integer it was made of (46 R142). -/
def Obligations.DrawReadsBackScaledDouble : Prop := ∀ v : Nat, v < 2 ^ 53 → draw53 (f64Scaled v 53) = v

/-- `NEXTINT max` (46 R142, R144): refused before any command for a negative `max`; otherwise one transition and a result in
`[0, max)`, or 0 for `max = 0` (90 C1). -/
def Obligations.NextIntMaxLaw : Prop :=
  ∀ (h : Session) (max : Half),
    (max.toInt < 0 → hostNextIntMax h max = ⟨h, .error .invalidArgument⟩) ∧
    (0 ≤ max.toInt → h.core.phase = .ready →
      ∃ h' v, hostNextIntMax h max = ⟨h', .ok v⟩ ∧ h'.mem = h.mem ∧
        (h'.core.s0, h'.core.s1) = nextState h.core.s0 h.core.s1 h.core.mat1 h.core.mat2 ∧
        v = (scaleTrunc ((temperU64 h'.core.s0 h'.core.s1 h.core.tmat) >>> 11).toNat max.toInt.toNat : Int) ∧
        0 ≤ v ∧ (0 < max.toInt → v < max.toInt) ∧ (max.toInt = 0 → v = 0))

/-- `NEXTINT min, max` (46 R143, R144): refused before any command for `min > max`; otherwise one transition and a result in
`[min, max)`, or `min` for `min = max` (90 C3). -/
def Obligations.NextIntRangeLaw : Prop :=
  ∀ (h : Session) (min max : Half),
    (min.toInt > max.toInt → hostNextIntRange h min max = ⟨h, .error .invalidArgument⟩) ∧
    (min.toInt ≤ max.toInt → h.core.phase = .ready →
      ∃ h' v, hostNextIntRange h min max = ⟨h', .ok v⟩ ∧ h'.mem = h.mem ∧
        (h'.core.s0, h'.core.s1) = nextState h.core.s0 h.core.s1 h.core.mat1 h.core.mat2 ∧
        v = min.toInt +
          (scaleTrunc ((temperU64 h'.core.s0 h'.core.s1 h.core.tmat) >>> 11).toNat (max.toInt - min.toInt).toNat : Int) ∧
        min.toInt ≤ v ∧ (min.toInt < max.toInt → v < max.toInt) ∧ (min.toInt = max.toInt → v = min.toInt))

/-- `NEXTBYTES` (46 R146, 20 R42): an absent buffer is refused before any command; otherwise `ceil(len / 8)` transitions, byte
`b` of the buffer is byte `b mod 8` of output `b / 8`, least significant first, and no other byte of host memory changes. -/
def Obligations.NextBytesFills : Prop :=
  ∀ (h : Session) (len : Nat),
    hostNextBytes h none len = ⟨h, .error .missingBuffer⟩ ∧
    (h.core.phase = .ready →
      ∀ a : Nat, ∃ h', hostNextBytes h (some a) len = ⟨h', .ok ()⟩ ∧
        (h'.core.s0, h'.core.s1) =
          ((State.advance^[(len + 7) / 8] h.core).s0, (State.advance^[(len + 7) / 8] h.core).s1) ∧
        (∀ b < len,
          let c := State.advance^[b / 8 + 1] h.core
          hostRead h'.mem (a + b) = some ((temperU64 c.s0 c.s1 c.tmat).extractLsb' (8 * (b % 8)) 8)) ∧
        (∀ x, x < a ∨ a + len ≤ x → hostRead h'.mem x = hostRead h.mem x))

/-- The examples of the assembler syntax (30 R67) assemble to their command words, and a comment is skipped. -/
def Obligations.AssemblerExamples : Prop :=
  (assembleLine "LDMAT1 0xfa051f40".toList).map (Option.map encode) = .ok (some 0x1000000000fa051f40) ∧
  (assembleLine "SEED 1".toList).map (Option.map encode) = .ok (some 0x200000000000000001) ∧
  (assembleLine "GU64 ; draw".toList).map (Option.map encode) = .ok (some 0x500000000000000000)
end

