-- ==== Sys2Proof/Laws/Decode.lean ====
section
/-! SUPPORT. The fields of a command word. -/

namespace Sys2Proof.Laws

theorem commandWord_getLsbD (op : BitVec 8) (imm : Word) (k : Nat) :
    (commandWord op imm).getLsbD k = if k < 64 then imm.getLsbD k else op.getLsbD (k - 64) := by
  rw [commandWord]
  exact (BitVec.getLsbD_append (x := op) (y := imm) (i := k)).trans (by simp)

@[simp] theorem opcodeOf_commandWord (op : BitVec 8) (imm : Word) : opcodeOf (commandWord op imm) = op := by
  apply BitVec.eq_of_getLsbD_eq
  intro k hk
  simp [opcodeOf, commandWord_getLsbD, hk]

@[simp] theorem operandOf_commandWord (op : BitVec 8) (imm : Word) : operandOf (commandWord op imm) = imm := by
  apply BitVec.eq_of_getLsbD_eq
  intro k hk
  simp [operandOf, commandWord_getLsbD, hk]

/-- A command word is its two fields. -/
theorem commandWord_fields (cw : CommandWord) : commandWord (opcodeOf cw) (operandOf cw) = cw := by
  apply BitVec.eq_of_getLsbD_eq
  intro k hk
  rw [commandWord_getLsbD]
  split
  · simp [operandOf, *]
  · have h2 : k - 64 < 8 := by omega
    have h3 : 64 + (k - 64) = k := by omega
    simp [opcodeOf, h2, h3]

/-- An encoded command's fields are its opcode and its operand. -/
theorem encode_fields (i : Instr) : opcodeOf (encode i) = i.opcode ∧ operandOf (encode i) = i.operand := by
  simp [encode]

/-- Decoding looks at a word only through its two fields. -/
theorem decode_congr {x y : CommandWord} (ho : opcodeOf x = opcodeOf y) (hi : operandOf x = operandOf y) :
    decode x = decode y := by
  rw [← commandWord_fields x, ← commandWord_fields y, ho, hi]

end Sys2Proof.Laws
end

