-- ==== Sys2Proof/Laws/State.lean ====
section
/-! SUPPORT. What each update of the state leaves in each field, so that no proof unfolds a record update. An element that holds
no value after an update (spec/10_state.md R36) has no lemma for it beyond the two operations that draw free values. -/

namespace Sys2Proof.Machine

variable (s : State)

@[simp] theorem State.respond_s0 (x : Status) (d : Word) : (s.respond x d).s0 = s.s0 := rfl
@[simp] theorem State.respond_s1 (x : Status) (d : Word) : (s.respond x d).s1 = s.s1 := rfl
@[simp] theorem State.respond_mat1 (x : Status) (d : Word) : (s.respond x d).mat1 = s.mat1 := rfl
@[simp] theorem State.respond_mat2 (x : Status) (d : Word) : (s.respond x d).mat2 = s.mat2 := rfl
@[simp] theorem State.respond_tmat (x : Status) (d : Word) : (s.respond x d).tmat = s.tmat := rfl
@[simp] theorem State.respond_phase (x : Status) (d : Word) : (s.respond x d).phase = s.phase := rfl
@[simp] theorem State.respond_st (x : Status) (d : Word) : (s.respond x d).st = s.st := rfl
@[simp] theorem State.respond_i (x : Status) (d : Word) : (s.respond x d).i = s.i := rfl
@[simp] theorem State.respond_j (x : Status) (d : Word) : (s.respond x d).j = s.j := rfl
@[simp] theorem State.respond_keylen (x : Status) (d : Word) : (s.respond x d).keylen = s.keylen := rfl
@[simp] theorem State.respond_config (x : Status) (d : Word) : (s.respond x d).config = s.config := rfl
@[simp] theorem State.respond_draws (x : Status) (d : Word) : (s.respond x d).draws = s.draws := rfl
@[simp] theorem State.respond_input (x : Status) (d : Word) : (s.respond x d).input = s.input := rfl
@[simp] theorem State.respond_responses (x : Status) (d : Word) : (s.respond x d).responses = s.responses ++ [⟨x, d⟩] := rfl

@[simp] theorem State.writeMat1_s0 (v : Half) : (s.writeMat1 v).s0 = s.s0 := rfl
@[simp] theorem State.writeMat1_s1 (v : Half) : (s.writeMat1 v).s1 = s.s1 := rfl
@[simp] theorem State.writeMat1_mat1 (v : Half) : (s.writeMat1 v).mat1 = v := rfl
@[simp] theorem State.writeMat1_mat2 (v : Half) : (s.writeMat1 v).mat2 = s.mat2 := rfl
@[simp] theorem State.writeMat1_tmat (v : Half) : (s.writeMat1 v).tmat = s.tmat := rfl
@[simp] theorem State.writeMat1_phase (v : Half) : (s.writeMat1 v).phase = s.phase := rfl
@[simp] theorem State.writeMat1_st (v : Half) : (s.writeMat1 v).st = s.st := rfl
@[simp] theorem State.writeMat1_i (v : Half) : (s.writeMat1 v).i = s.i := rfl
@[simp] theorem State.writeMat1_j (v : Half) : (s.writeMat1 v).j = s.j := rfl
@[simp] theorem State.writeMat1_keylen (v : Half) : (s.writeMat1 v).keylen = s.keylen := rfl
@[simp] theorem State.writeMat1_config (v : Half) : (s.writeMat1 v).config = s.config := rfl
@[simp] theorem State.writeMat1_draws (v : Half) : (s.writeMat1 v).draws = s.draws := rfl
@[simp] theorem State.writeMat1_input (v : Half) : (s.writeMat1 v).input = s.input := rfl
@[simp] theorem State.writeMat1_responses (v : Half) : (s.writeMat1 v).responses = s.responses := rfl

@[simp] theorem State.writeMat2_s0 (v : Half) : (s.writeMat2 v).s0 = s.s0 := rfl
@[simp] theorem State.writeMat2_s1 (v : Half) : (s.writeMat2 v).s1 = s.s1 := rfl
@[simp] theorem State.writeMat2_mat1 (v : Half) : (s.writeMat2 v).mat1 = s.mat1 := rfl
@[simp] theorem State.writeMat2_mat2 (v : Half) : (s.writeMat2 v).mat2 = v := rfl
@[simp] theorem State.writeMat2_tmat (v : Half) : (s.writeMat2 v).tmat = s.tmat := rfl
@[simp] theorem State.writeMat2_phase (v : Half) : (s.writeMat2 v).phase = s.phase := rfl
@[simp] theorem State.writeMat2_st (v : Half) : (s.writeMat2 v).st = s.st := rfl
@[simp] theorem State.writeMat2_i (v : Half) : (s.writeMat2 v).i = s.i := rfl
@[simp] theorem State.writeMat2_j (v : Half) : (s.writeMat2 v).j = s.j := rfl
@[simp] theorem State.writeMat2_keylen (v : Half) : (s.writeMat2 v).keylen = s.keylen := rfl
@[simp] theorem State.writeMat2_config (v : Half) : (s.writeMat2 v).config = s.config := rfl
@[simp] theorem State.writeMat2_draws (v : Half) : (s.writeMat2 v).draws = s.draws := rfl
@[simp] theorem State.writeMat2_input (v : Half) : (s.writeMat2 v).input = s.input := rfl
@[simp] theorem State.writeMat2_responses (v : Half) : (s.writeMat2 v).responses = s.responses := rfl

@[simp] theorem State.writeTmat_s0 (v : Word) : (s.writeTmat v).s0 = s.s0 := rfl
@[simp] theorem State.writeTmat_s1 (v : Word) : (s.writeTmat v).s1 = s.s1 := rfl
@[simp] theorem State.writeTmat_mat1 (v : Word) : (s.writeTmat v).mat1 = s.mat1 := rfl
@[simp] theorem State.writeTmat_mat2 (v : Word) : (s.writeTmat v).mat2 = s.mat2 := rfl
@[simp] theorem State.writeTmat_tmat (v : Word) : (s.writeTmat v).tmat = v := rfl
@[simp] theorem State.writeTmat_phase (v : Word) : (s.writeTmat v).phase = s.phase := rfl
@[simp] theorem State.writeTmat_st (v : Word) : (s.writeTmat v).st = s.st := rfl
@[simp] theorem State.writeTmat_i (v : Word) : (s.writeTmat v).i = s.i := rfl
@[simp] theorem State.writeTmat_j (v : Word) : (s.writeTmat v).j = s.j := rfl
@[simp] theorem State.writeTmat_keylen (v : Word) : (s.writeTmat v).keylen = s.keylen := rfl
@[simp] theorem State.writeTmat_config (v : Word) : (s.writeTmat v).config = s.config := rfl
@[simp] theorem State.writeTmat_draws (v : Word) : (s.writeTmat v).draws = s.draws := rfl
@[simp] theorem State.writeTmat_input (v : Word) : (s.writeTmat v).input = s.input := rfl
@[simp] theorem State.writeTmat_responses (v : Word) : (s.writeTmat v).responses = s.responses := rfl

@[simp] theorem State.setPhase_s0 (p : Phase) : (s.setPhase p).s0 = s.s0 := rfl
@[simp] theorem State.setPhase_s1 (p : Phase) : (s.setPhase p).s1 = s.s1 := rfl
@[simp] theorem State.setPhase_mat1 (p : Phase) : (s.setPhase p).mat1 = s.mat1 := rfl
@[simp] theorem State.setPhase_mat2 (p : Phase) : (s.setPhase p).mat2 = s.mat2 := rfl
@[simp] theorem State.setPhase_tmat (p : Phase) : (s.setPhase p).tmat = s.tmat := rfl
@[simp] theorem State.setPhase_phase (p : Phase) : (s.setPhase p).phase = p := rfl
@[simp] theorem State.setPhase_st (p : Phase) : (s.setPhase p).st = s.st := rfl
@[simp] theorem State.setPhase_i (p : Phase) : (s.setPhase p).i = s.i := rfl
@[simp] theorem State.setPhase_j (p : Phase) : (s.setPhase p).j = s.j := rfl
@[simp] theorem State.setPhase_keylen (p : Phase) : (s.setPhase p).keylen = s.keylen := rfl
@[simp] theorem State.setPhase_config (p : Phase) : (s.setPhase p).config = s.config := rfl
@[simp] theorem State.setPhase_draws (p : Phase) : (s.setPhase p).draws = s.draws := rfl
@[simp] theorem State.setPhase_input (p : Phase) : (s.setPhase p).input = s.input := rfl
@[simp] theorem State.setPhase_responses (p : Phase) : (s.setPhase p).responses = s.responses := rfl

@[simp] theorem State.writeGenerator_s0 (p : Word × Word) : (s.writeGenerator p).s0 = p.1 := rfl
@[simp] theorem State.writeGenerator_s1 (p : Word × Word) : (s.writeGenerator p).s1 = p.2 := rfl
@[simp] theorem State.writeGenerator_mat1 (p : Word × Word) : (s.writeGenerator p).mat1 = s.mat1 := rfl
@[simp] theorem State.writeGenerator_mat2 (p : Word × Word) : (s.writeGenerator p).mat2 = s.mat2 := rfl
@[simp] theorem State.writeGenerator_tmat (p : Word × Word) : (s.writeGenerator p).tmat = s.tmat := rfl
@[simp] theorem State.writeGenerator_phase (p : Word × Word) : (s.writeGenerator p).phase = s.phase := rfl
@[simp] theorem State.writeGenerator_st (p : Word × Word) : (s.writeGenerator p).st = s.st := rfl
@[simp] theorem State.writeGenerator_i (p : Word × Word) : (s.writeGenerator p).i = s.i := rfl
@[simp] theorem State.writeGenerator_j (p : Word × Word) : (s.writeGenerator p).j = s.j := rfl
@[simp] theorem State.writeGenerator_keylen (p : Word × Word) : (s.writeGenerator p).keylen = s.keylen := rfl
@[simp] theorem State.writeGenerator_config (p : Word × Word) : (s.writeGenerator p).config = s.config := rfl
@[simp] theorem State.writeGenerator_draws (p : Word × Word) : (s.writeGenerator p).draws = s.draws := rfl
@[simp] theorem State.writeGenerator_input (p : Word × Word) : (s.writeGenerator p).input = s.input := rfl
@[simp] theorem State.writeGenerator_responses (p : Word × Word) : (s.writeGenerator p).responses = s.responses := rfl

@[simp] theorem State.writeMixer_s0 (b : SeedBuffer) (k : BitVec 2) : (s.writeMixer b k).s0 = s.s0 := rfl
@[simp] theorem State.writeMixer_s1 (b : SeedBuffer) (k : BitVec 2) : (s.writeMixer b k).s1 = s.s1 := rfl
@[simp] theorem State.writeMixer_mat1 (b : SeedBuffer) (k : BitVec 2) : (s.writeMixer b k).mat1 = s.mat1 := rfl
@[simp] theorem State.writeMixer_mat2 (b : SeedBuffer) (k : BitVec 2) : (s.writeMixer b k).mat2 = s.mat2 := rfl
@[simp] theorem State.writeMixer_tmat (b : SeedBuffer) (k : BitVec 2) : (s.writeMixer b k).tmat = s.tmat := rfl
@[simp] theorem State.writeMixer_phase (b : SeedBuffer) (k : BitVec 2) : (s.writeMixer b k).phase = s.phase := rfl
@[simp] theorem State.writeMixer_st (b : SeedBuffer) (k : BitVec 2) : (s.writeMixer b k).st = b := rfl
@[simp] theorem State.writeMixer_i (b : SeedBuffer) (k : BitVec 2) : (s.writeMixer b k).i = k := rfl
@[simp] theorem State.writeMixer_j (b : SeedBuffer) (k : BitVec 2) : (s.writeMixer b k).j = s.j := rfl
@[simp] theorem State.writeMixer_keylen (b : SeedBuffer) (k : BitVec 2) : (s.writeMixer b k).keylen = s.keylen := rfl
@[simp] theorem State.writeMixer_config (b : SeedBuffer) (k : BitVec 2) : (s.writeMixer b k).config = s.config := rfl
@[simp] theorem State.writeMixer_draws (b : SeedBuffer) (k : BitVec 2) : (s.writeMixer b k).draws = s.draws := rfl
@[simp] theorem State.writeMixer_input (b : SeedBuffer) (k : BitVec 2) : (s.writeMixer b k).input = s.input := rfl
@[simp] theorem State.writeMixer_responses (b : SeedBuffer) (k : BitVec 2) : (s.writeMixer b k).responses = s.responses := rfl

@[simp] theorem State.writeJ_s0 (v : Half) : (s.writeJ v).s0 = s.s0 := rfl
@[simp] theorem State.writeJ_s1 (v : Half) : (s.writeJ v).s1 = s.s1 := rfl
@[simp] theorem State.writeJ_mat1 (v : Half) : (s.writeJ v).mat1 = s.mat1 := rfl
@[simp] theorem State.writeJ_mat2 (v : Half) : (s.writeJ v).mat2 = s.mat2 := rfl
@[simp] theorem State.writeJ_tmat (v : Half) : (s.writeJ v).tmat = s.tmat := rfl
@[simp] theorem State.writeJ_phase (v : Half) : (s.writeJ v).phase = s.phase := rfl
@[simp] theorem State.writeJ_st (v : Half) : (s.writeJ v).st = s.st := rfl
@[simp] theorem State.writeJ_i (v : Half) : (s.writeJ v).i = s.i := rfl
@[simp] theorem State.writeJ_j (v : Half) : (s.writeJ v).j = v := rfl
@[simp] theorem State.writeJ_keylen (v : Half) : (s.writeJ v).keylen = s.keylen := rfl
@[simp] theorem State.writeJ_config (v : Half) : (s.writeJ v).config = s.config := rfl
@[simp] theorem State.writeJ_draws (v : Half) : (s.writeJ v).draws = s.draws := rfl
@[simp] theorem State.writeJ_input (v : Half) : (s.writeJ v).input = s.input := rfl
@[simp] theorem State.writeJ_responses (v : Half) : (s.writeJ v).responses = s.responses := rfl

@[simp] theorem State.writeKeylen_s0 (v : Half) : (s.writeKeylen v).s0 = s.s0 := rfl
@[simp] theorem State.writeKeylen_s1 (v : Half) : (s.writeKeylen v).s1 = s.s1 := rfl
@[simp] theorem State.writeKeylen_mat1 (v : Half) : (s.writeKeylen v).mat1 = s.mat1 := rfl
@[simp] theorem State.writeKeylen_mat2 (v : Half) : (s.writeKeylen v).mat2 = s.mat2 := rfl
@[simp] theorem State.writeKeylen_tmat (v : Half) : (s.writeKeylen v).tmat = s.tmat := rfl
@[simp] theorem State.writeKeylen_phase (v : Half) : (s.writeKeylen v).phase = s.phase := rfl
@[simp] theorem State.writeKeylen_st (v : Half) : (s.writeKeylen v).st = s.st := rfl
@[simp] theorem State.writeKeylen_i (v : Half) : (s.writeKeylen v).i = s.i := rfl
@[simp] theorem State.writeKeylen_j (v : Half) : (s.writeKeylen v).j = s.j := rfl
@[simp] theorem State.writeKeylen_keylen (v : Half) : (s.writeKeylen v).keylen = v := rfl
@[simp] theorem State.writeKeylen_config (v : Half) : (s.writeKeylen v).config = s.config := rfl
@[simp] theorem State.writeKeylen_draws (v : Half) : (s.writeKeylen v).draws = s.draws := rfl
@[simp] theorem State.writeKeylen_input (v : Half) : (s.writeKeylen v).input = s.input := rfl
@[simp] theorem State.writeKeylen_responses (v : Half) : (s.writeKeylen v).responses = s.responses := rfl

@[simp] theorem State.withInput_s0 (l : List PortInput) : (s.withInput l).s0 = s.s0 := rfl
@[simp] theorem State.withInput_s1 (l : List PortInput) : (s.withInput l).s1 = s.s1 := rfl
@[simp] theorem State.withInput_mat1 (l : List PortInput) : (s.withInput l).mat1 = s.mat1 := rfl
@[simp] theorem State.withInput_mat2 (l : List PortInput) : (s.withInput l).mat2 = s.mat2 := rfl
@[simp] theorem State.withInput_tmat (l : List PortInput) : (s.withInput l).tmat = s.tmat := rfl
@[simp] theorem State.withInput_phase (l : List PortInput) : (s.withInput l).phase = s.phase := rfl
@[simp] theorem State.withInput_st (l : List PortInput) : (s.withInput l).st = s.st := rfl
@[simp] theorem State.withInput_i (l : List PortInput) : (s.withInput l).i = s.i := rfl
@[simp] theorem State.withInput_j (l : List PortInput) : (s.withInput l).j = s.j := rfl
@[simp] theorem State.withInput_keylen (l : List PortInput) : (s.withInput l).keylen = s.keylen := rfl
@[simp] theorem State.withInput_config (l : List PortInput) : (s.withInput l).config = s.config := rfl
@[simp] theorem State.withInput_draws (l : List PortInput) : (s.withInput l).draws = s.draws := rfl
@[simp] theorem State.withInput_input (l : List PortInput) : (s.withInput l).input = l := rfl
@[simp] theorem State.withInput_responses (l : List PortInput) : (s.withInput l).responses = s.responses := rfl

@[simp] theorem State.dropGenerator_s0 : s.dropGenerator.s0 = Config.noValueS0 s.draws := rfl
@[simp] theorem State.dropGenerator_s1 : s.dropGenerator.s1 = Config.noValueS1 s.draws := rfl
@[simp] theorem State.dropGenerator_mat1 : s.dropGenerator.mat1 = s.mat1 := rfl
@[simp] theorem State.dropGenerator_mat2 : s.dropGenerator.mat2 = s.mat2 := rfl
@[simp] theorem State.dropGenerator_tmat : s.dropGenerator.tmat = s.tmat := rfl
@[simp] theorem State.dropGenerator_phase : s.dropGenerator.phase = s.phase := rfl
@[simp] theorem State.dropGenerator_st : s.dropGenerator.st = s.st := rfl
@[simp] theorem State.dropGenerator_i : s.dropGenerator.i = s.i := rfl
@[simp] theorem State.dropGenerator_j : s.dropGenerator.j = s.j := rfl
@[simp] theorem State.dropGenerator_keylen : s.dropGenerator.keylen = s.keylen := rfl
@[simp] theorem State.dropGenerator_config : s.dropGenerator.config = s.config := rfl
@[simp] theorem State.dropGenerator_draws : s.dropGenerator.draws = s.draws + 1 := rfl
@[simp] theorem State.dropGenerator_input : s.dropGenerator.input = s.input := rfl
@[simp] theorem State.dropGenerator_responses : s.dropGenerator.responses = s.responses := rfl

@[simp] theorem State.dropKeyLoad_s0 : s.dropKeyLoad.s0 = s.s0 := rfl
@[simp] theorem State.dropKeyLoad_s1 : s.dropKeyLoad.s1 = s.s1 := rfl
@[simp] theorem State.dropKeyLoad_mat1 : s.dropKeyLoad.mat1 = s.mat1 := rfl
@[simp] theorem State.dropKeyLoad_mat2 : s.dropKeyLoad.mat2 = s.mat2 := rfl
@[simp] theorem State.dropKeyLoad_tmat : s.dropKeyLoad.tmat = s.tmat := rfl
@[simp] theorem State.dropKeyLoad_phase : s.dropKeyLoad.phase = s.phase := rfl
@[simp] theorem State.dropKeyLoad_st :
    s.dropKeyLoad.st =
      ⟨Config.noValueSt s.draws 0, Config.noValueSt s.draws 1, Config.noValueSt s.draws 2, Config.noValueSt s.draws 3⟩ := rfl
@[simp] theorem State.dropKeyLoad_i : s.dropKeyLoad.i = Config.noValueI s.draws := rfl
@[simp] theorem State.dropKeyLoad_j : s.dropKeyLoad.j = Config.noValueJ s.draws := rfl
@[simp] theorem State.dropKeyLoad_keylen : s.dropKeyLoad.keylen = Config.noValueKeylen s.draws := rfl
@[simp] theorem State.dropKeyLoad_config : s.dropKeyLoad.config = s.config := rfl
@[simp] theorem State.dropKeyLoad_draws : s.dropKeyLoad.draws = s.draws + 1 := rfl
@[simp] theorem State.dropKeyLoad_input : s.dropKeyLoad.input = s.input := rfl
@[simp] theorem State.dropKeyLoad_responses : s.dropKeyLoad.responses = s.responses := rfl

@[simp] theorem State.endInstance_mat1 : s.endInstance.mat1 = s.mat1 := rfl
@[simp] theorem State.endInstance_mat2 : s.endInstance.mat2 = s.mat2 := rfl
@[simp] theorem State.endInstance_tmat : s.endInstance.tmat = s.tmat := rfl
@[simp] theorem State.endInstance_phase : s.endInstance.phase = .unseeded := rfl
@[simp] theorem State.endInstance_config : s.endInstance.config = s.config := rfl
@[simp] theorem State.endInstance_input : s.endInstance.input = s.input := rfl
@[simp] theorem State.endInstance_responses : s.endInstance.responses = s.responses := rfl

@[simp] theorem State.becomeReady_s0 (p : Word × Word) : (s.becomeReady p).s0 = p.1 := rfl
@[simp] theorem State.becomeReady_s1 (p : Word × Word) : (s.becomeReady p).s1 = p.2 := rfl
@[simp] theorem State.becomeReady_mat1 (p : Word × Word) : (s.becomeReady p).mat1 = s.mat1 := rfl
@[simp] theorem State.becomeReady_mat2 (p : Word × Word) : (s.becomeReady p).mat2 = s.mat2 := rfl
@[simp] theorem State.becomeReady_tmat (p : Word × Word) : (s.becomeReady p).tmat = s.tmat := rfl
@[simp] theorem State.becomeReady_phase (p : Word × Word) : (s.becomeReady p).phase = .ready := rfl
@[simp] theorem State.becomeReady_config (p : Word × Word) : (s.becomeReady p).config = s.config := rfl
@[simp] theorem State.becomeReady_input (p : Word × Word) : (s.becomeReady p).input = s.input := rfl
@[simp] theorem State.becomeReady_responses (p : Word × Word) : (s.becomeReady p).responses = s.responses := rfl

@[simp] theorem State.assertReset_mat1 : s.assertReset.mat1 = 0xfa051f40 := rfl
@[simp] theorem State.assertReset_mat2 : s.assertReset.mat2 = 0xffd0fff4 := rfl
@[simp] theorem State.assertReset_tmat : s.assertReset.tmat = 0x58d02ffeffbfffbc := rfl
@[simp] theorem State.assertReset_phase : s.assertReset.phase = .unseeded := rfl
@[simp] theorem State.assertReset_config : s.assertReset.config = s.config := rfl
@[simp] theorem State.assertReset_input : s.assertReset.input = s.input := rfl
@[simp] theorem State.assertReset_responses : s.assertReset.responses = s.responses := rfl

@[simp] theorem State.consumeKey_s0 (w : Word) : (s.consumeKey w).s0 = s.s0 := rfl
@[simp] theorem State.consumeKey_s1 (w : Word) : (s.consumeKey w).s1 = s.s1 := rfl
@[simp] theorem State.consumeKey_mat1 (w : Word) : (s.consumeKey w).mat1 = s.mat1 := rfl
@[simp] theorem State.consumeKey_mat2 (w : Word) : (s.consumeKey w).mat2 = s.mat2 := rfl
@[simp] theorem State.consumeKey_tmat (w : Word) : (s.consumeKey w).tmat = s.tmat := rfl
@[simp] theorem State.consumeKey_phase (w : Word) : (s.consumeKey w).phase = s.phase := rfl
@[simp] theorem State.consumeKey_st (w : Word) : (s.consumeKey w).st = (keyStep s.config.profile w (s.st, s.i)).1 := rfl
@[simp] theorem State.consumeKey_i (w : Word) : (s.consumeKey w).i = (keyStep s.config.profile w (s.st, s.i)).2 := rfl
@[simp] theorem State.consumeKey_j (w : Word) : (s.consumeKey w).j = s.j + 1 := rfl
@[simp] theorem State.consumeKey_keylen (w : Word) : (s.consumeKey w).keylen = s.keylen := rfl
@[simp] theorem State.consumeKey_config (w : Word) : (s.consumeKey w).config = s.config := rfl
@[simp] theorem State.consumeKey_draws (w : Word) : (s.consumeKey w).draws = s.draws := rfl
@[simp] theorem State.consumeKey_input (w : Word) : (s.consumeKey w).input = s.input := rfl
@[simp] theorem State.consumeKey_responses (w : Word) : (s.consumeKey w).responses = s.responses := rfl

@[simp] theorem State.finishKeyLoad_s0 :
    s.finishKeyLoad.s0 =
      (collapse s.config (finishPasses s.config.profile s.keylen.toNat (s.st, s.i)).1).1 := rfl
@[simp] theorem State.finishKeyLoad_s1 :
    s.finishKeyLoad.s1 =
      (collapse s.config (finishPasses s.config.profile s.keylen.toNat (s.st, s.i)).1).2 := rfl
@[simp] theorem State.finishKeyLoad_mat1 : s.finishKeyLoad.mat1 = s.mat1 := rfl
@[simp] theorem State.finishKeyLoad_mat2 : s.finishKeyLoad.mat2 = s.mat2 := rfl
@[simp] theorem State.finishKeyLoad_tmat : s.finishKeyLoad.tmat = s.tmat := rfl
@[simp] theorem State.finishKeyLoad_phase : s.finishKeyLoad.phase = .ready := rfl
@[simp] theorem State.finishKeyLoad_config : s.finishKeyLoad.config = s.config := rfl
@[simp] theorem State.finishKeyLoad_input : s.finishKeyLoad.input = s.input := rfl
@[simp] theorem State.finishKeyLoad_responses : s.finishKeyLoad.responses = s.responses := rfl

@[simp] theorem State.advance_s0 : s.advance.s0 = (nextState s.s0 s.s1 s.mat1 s.mat2).1 := rfl
@[simp] theorem State.advance_s1 : s.advance.s1 = (nextState s.s0 s.s1 s.mat1 s.mat2).2 := rfl
@[simp] theorem State.advance_mat1 : s.advance.mat1 = s.mat1 := rfl
@[simp] theorem State.advance_mat2 : s.advance.mat2 = s.mat2 := rfl
@[simp] theorem State.advance_tmat : s.advance.tmat = s.tmat := rfl
@[simp] theorem State.advance_phase : s.advance.phase = s.phase := rfl
@[simp] theorem State.advance_st : s.advance.st = s.st := rfl
@[simp] theorem State.advance_i : s.advance.i = s.i := rfl
@[simp] theorem State.advance_j : s.advance.j = s.j := rfl
@[simp] theorem State.advance_keylen : s.advance.keylen = s.keylen := rfl
@[simp] theorem State.advance_config : s.advance.config = s.config := rfl
@[simp] theorem State.advance_draws : s.advance.draws = s.draws := rfl
@[simp] theorem State.advance_input : s.advance.input = s.input := rfl
@[simp] theorem State.advance_responses : s.advance.responses = s.responses := rfl

end Sys2Proof.Machine
end

