-- ==== Sys2Proof/Laws/Ops.lean ====
section
/-! SUPPORT. What each shared operation can do, said once. -/

namespace Sys2Proof.Machine

/-! ### Answers and checks -/

@[simp] theorem answer_eq (s : State) (d : Word) : answer s d = .next (s.respond .ok d) := rfl

@[simp] theorem raise_eq (s : State) (e : Status) : raise s e = .next (s.respond e 0) := rfl

theorem whenReady_of_ready {s : State} (h : s.phase = .ready) (k : Result) : whenReady s k = k := if_pos h

theorem whenReady_of_not_ready {s : State} (h : s.phase ≠ .ready) (k : Result) :
    whenReady s k = .next (s.respond .errUnseeded 0) := if_neg h

theorem whenKeyload_of_keyload {s : State} (h : s.phase = .keyload) (k : Result) : whenKeyload s k = k := if_pos h

theorem whenKeyload_of_not_keyload {s : State} (h : s.phase ≠ .keyload) (k : Result) :
    whenKeyload s k = .next (s.respond .errSeq 0) := if_neg h

/-- A command that needs the generator either finds it and goes on, or answers `ERR_UNSEEDED` and changes nothing. -/
theorem whenReady_cases {s t : State} {k : Result} (h : whenReady s k = .next t) :
    (s.phase = .ready ∧ k = .next t) ∨ (s.phase ≠ .ready ∧ t = s.respond .errUnseeded 0) := by
  by_cases hp : s.phase = .ready
  · exact .inl ⟨hp, by rwa [whenReady_of_ready hp] at h⟩
  · rw [whenReady_of_not_ready hp] at h
    exact .inr ⟨hp, by injection h with h; exact h.symm⟩

/-! ### The two shapes of an output command -/

theorem temperRead_of_ready {s : State} (h : s.phase = .ready) (f : Word → Word → Word → Word) :
    temperRead f s = .next (s.respond .ok (f s.s0 s.s1 s.tmat)) := whenReady_of_ready h _

theorem temperRead_of_not_ready {s : State} (h : s.phase ≠ .ready) (f : Word → Word → Word → Word) :
    temperRead f s = .next (s.respond .errUnseeded 0) := whenReady_of_not_ready h _

theorem generate_of_ready {s : State} (h : s.phase = .ready) (f : Word → Word → Word → Word) :
    generate f s = .next (s.advance.respond .ok (f s.advance.s0 s.advance.s1 s.advance.tmat)) := whenReady_of_ready h _

theorem generate_of_not_ready {s : State} (h : s.phase ≠ .ready) (f : Word → Word → Word → Word) :
    generate f s = .next (s.respond .errUnseeded 0) := whenReady_of_not_ready h _

/-! ### Operands -/

theorem operandW_of_fits {imm : Word} (h : imm.extractLsb' 32 32 = 0) : operandW imm = some (imm.extractLsb' 0 32) := if_pos h

theorem operandW_of_wide {imm : Word} (h : imm.extractLsb' 32 32 ≠ 0) : operandW imm = none := if_neg h

theorem operandKeyLength_of_legal {c : Config} {imm : Word} (h : ¬(imm = 0 ∨ imm.toNat > c.keylenMax)) :
    operandKeyLength c imm = some (imm.extractLsb' 0 32) := if_neg h

theorem operandKeyLength_of_illegal {c : Config} {imm : Word} (h : imm = 0 ∨ imm.toNat > c.keylenMax) :
    operandKeyLength c imm = none := if_pos h

/-! ### The array-seeding buffer -/

/-- The index space of `ST` has four points (10 R32). -/
theorem index_cases (k : BitVec 2) : k = 0 ∨ k = 1 ∨ k = 2 ∨ k = 3 := by
  have h : ∀ k : BitVec 2, k = 0 ∨ k = 1 ∨ k = 2 ∨ k = 3 := by decide
  exact h k

/-- The buffer reads what was written, and a write changes no other register. -/
theorem SeedBuffer.get_set (b : SeedBuffer) (k l : BitVec 2) (v : Word) :
    (b.set k v).get l = if l = k then v else b.get l := by
  rcases index_cases k with rfl | rfl | rfl | rfl <;> rcases index_cases l with rfl | rfl | rfl | rfl <;>
    simp [SeedBuffer.get, SeedBuffer.set]

/-- Two buffers that read alike are equal. -/
theorem SeedBuffer.ext_get {a b : SeedBuffer} (h : ∀ k, a.get k = b.get k) : a = b := by
  have h0 := h 0
  have h1 := h 1
  have h2 := h 2
  have h3 := h 3
  simp [SeedBuffer.get] at h0 h1 h2 h3
  cases a
  cases b
  simp_all

/-- Both passes advance the rotating index by one. -/
theorem mixStep_index (p : ArraySeedProfile) (add : Word) (m : SeedBuffer × BitVec 2) :
    (mixStep p add m).2 = m.2 + 1 := rfl

theorem keyStep_index (p : ArraySeedProfile) (w : Word) (m : SeedBuffer × BitVec 2) :
    (keyStep p w m).2 = m.2 + 1 := rfl

theorem continueStep_index (p : ArraySeedProfile) (m : SeedBuffer × BitVec 2) :
    (continueStep p m).2 = m.2 + 1 := rfl

theorem finStep_index (p : ArraySeedProfile) (m : SeedBuffer × BitVec 2) : (finStep p m).2 = m.2 + 1 := rfl

/-! ### Parameters and the degenerate pair -/

theorem maskedZero_iff (a b : Word) : maskedZero a b = true ↔ a &&& mask = 0 ∧ b = 0 := by simp [maskedZero]

theorem configValid_iff (c : Config) :
    configValid c = true ↔ ¬(c.certS0 &&& mask = 0 ∧ c.certS1 = 0) ∧ 1 ≤ c.keylenMax ∧ c.keylenMax ≤ 2 ^ 32 - 2 := by
  simp [configValid, maskedZero, imp_iff_not_or]

end Sys2Proof.Machine
end

