-- ==== Sys2Proof/Laws/Exec.lean ====
section
/-! SUPPORT. What `exec` and `step` can do. -/

namespace Sys2Proof.Machine

/-- The commands that neither move the generator nor a key load nor a parameter: the answer of a read, with its status. -/
theorem temperRead_next (f : Word → Word → Word → Word) (s : State) :
    ∃ x d, temperRead f s = .next (s.respond x d) := by
  by_cases h : s.phase = .ready
  · exact ⟨_, _, temperRead_of_ready h f⟩
  · exact ⟨_, _, temperRead_of_not_ready h f⟩

/-- A generate command answers from the advanced state, or answers an error and advances nothing. -/
theorem generate_next (f : Word → Word → Word → Word) (s : State) :
    ∃ x d, generate f s = .next (s.advance.respond x d) ∨ generate f s = .next (s.respond x d) := by
  by_cases h : s.phase = .ready
  · exact ⟨_, _, .inl (generate_of_ready h f)⟩
  · exact ⟨_, _, .inr (generate_of_not_ready h f)⟩

/-- A key word outside a key load is refused; inside one it is mixed in, and the last word ends the load. -/
theorem execKey_cases (w : Word) (s : State) :
    (s.phase ≠ .keyload ∧ execKey w s = .next (s.respond .errSeq 0)) ∨
    (s.phase = .keyload ∧ s.j + 1 ≠ s.keylen ∧ execKey w s = .next ((s.consumeKey w).respond .ok 0)) ∨
    (s.phase = .keyload ∧ s.j + 1 = s.keylen ∧ execKey w s = .next ((s.consumeKey w).finishKeyLoad.respond .ok 0)) := by
  by_cases hp : s.phase = .keyload
  · by_cases hj : s.j + 1 = s.keylen
    · exact .inr (.inr ⟨hp, hj, by rw [execKey, whenKeyload_of_keyload hp, if_pos hj, answer_eq]⟩)
    · exact .inr (.inl ⟨hp, hj, by rw [execKey, whenKeyload_of_keyload hp, if_neg hj, answer_eq]⟩)
  · exact .inl ⟨hp, whenKeyload_of_not_keyload hp _⟩

/-! ### One step, by what the host presents -/

theorem step_idle {s : State} (h : s.input = []) : step s = .next s := by simp [step, h]

theorem step_reset {s : State} {rest : List PortInput} (h : s.input = .reset :: rest) :
    step s = .next (s.withInput rest).assertReset := by simp [step, h]

theorem step_command {s : State} {cw : CommandWord} {rest : List PortInput} {i : Instr}
    (h : s.input = .command cw :: rest) (hd : decode cw = .ok i) : step s = exec i (s.withInput rest) := by
  simp [step, h, hd]

theorem step_undecoded {s : State} {cw : CommandWord} {rest : List PortInput} {e : DecodeError}
    (h : s.input = .command cw :: rest) (hd : decode cw = .error e) :
    step s = .next ((s.withInput rest).respond .errIllegal 0) := by
  cases e
  simp [step, h, hd, execUndecoded]

end Sys2Proof.Machine
end

