-- ==== Sys2Proof/Laws/HostMemory.lean ====
section
/-! SUPPORT. Host memory: a read after a write, and the canonical form. -/

namespace Sys2Proof.Machine

/-- A read gives what was written at its address, and a write changes no other byte. -/
theorem hostRead_hostWrite (m : HostMemory) (a x : Nat) (v : BitVec 8) :
    hostRead (hostWrite m a v) x = if x = a then some v else hostRead m x := by
  induction m with
  | nil => simp [hostWrite, hostRead]
  | cons c m ih =>
    obtain ⟨b, w⟩ := c
    simp only [hostWrite]
    split
    · simp [hostRead]
    · split
      · subst_vars
        simp only [hostRead]
        split <;> rfl
      · rename_i hlt hne
        simp only [hostRead, ih]
        by_cases hxb : x = b
        · have hxa : x ≠ a := by omega
          simp [hxb, show b ≠ a by omega]
        · simp [hxb]

/-- Every address of memory after a write is the written one or was there before. -/
theorem mem_hostWrite {m : HostMemory} {a : Nat} {v : BitVec 8} {c : Host.Cell} (h : c ∈ hostWrite m a v) :
    c.1 = a ∨ c ∈ m := by
  induction m with
  | nil =>
    simp only [hostWrite, List.mem_singleton] at h
    exact .inl (by rw [h])
  | cons d m ih =>
    obtain ⟨b, w⟩ := d
    simp only [hostWrite] at h
    split at h
    · rcases List.mem_cons.mp h with rfl | h
      · exact .inl rfl
      · exact .inr h
    · split at h
      · rcases List.mem_cons.mp h with rfl | h
        · exact .inl rfl
        · exact .inr (List.mem_cons_of_mem _ h)
      · rcases List.mem_cons.mp h with rfl | h
        · exact .inr List.mem_cons_self
        · rcases ih h with h | h
          · exact .inl h
          · exact .inr (List.mem_cons_of_mem _ h)

/-- Writing a byte keeps the canonical form. -/
theorem hostWrite_wf {m : HostMemory} (a : Nat) (v : BitVec 8) (h : hostMemoryWf m = true) :
    hostMemoryWf (hostWrite m a v) = true := by
  simp only [hostMemoryWf, decide_eq_true_eq] at h ⊢
  induction m with
  | nil => simp [hostWrite]
  | cons d m ih =>
    obtain ⟨b, w⟩ := d
    obtain ⟨hb, hm⟩ := List.pairwise_cons.mp h
    simp only [hostWrite]
    split
    · rename_i hlt
      refine List.pairwise_cons.mpr ⟨fun c hc => ?_, h⟩
      rcases List.mem_cons.mp hc with rfl | hc
      · exact hlt
      · exact lt_trans hlt (hb c hc)
    · split
      · subst_vars
        exact List.pairwise_cons.mpr ⟨hb, hm⟩
      · refine List.pairwise_cons.mpr ⟨fun c hc => ?_, ih hm⟩
        rcases mem_hostWrite hc with hc | hc
        · simp only at *
          omega
        · exact hb c hc

/-- Storing the bytes of a word keeps the canonical form. -/
theorem hostStore_wf {m : HostMemory} (a : Nat) (w : Word) (n : Nat) (h : hostMemoryWf m = true) :
    hostMemoryWf (hostStore m a w n) = true := by
  induction n with
  | zero => exact h
  | succ n ih => exact hostWrite_wf _ _ ih

/-- Storing `n` bytes of a word: byte `k` at the address `k` above the base, every other byte as before. -/
theorem hostRead_hostStore (m : HostMemory) (a : Nat) (w : Word) (n x : Nat) :
    hostRead (hostStore m a w n) x =
      if a ≤ x ∧ x < a + n then some (w.extractLsb' (8 * (x - a)) 8) else hostRead m x := by
  induction n with
  | zero => simp [hostStore, show ¬(a ≤ x ∧ x < a) by omega]
  | succ n ih =>
    rw [hostStore, hostRead_hostWrite, ih]
    by_cases h : x = a + n
    · subst h
      simp
    · by_cases h2 : a ≤ x ∧ x < a + n
      · simp [h, h2, show a ≤ x ∧ x < a + (n + 1) by omega]
      · simp [h, h2, show ¬(a ≤ x ∧ x < a + (n + 1)) by omega]

end Sys2Proof.Machine
end

