-- ==== Sys2Proof/Laws/PerInstr.lean ====
section
/-! SUPPORT. Statements made of every command, one lemma per constructor. -/

/-- The two fields of a command's word are its opcode and its operand (spec/30_encoding.md R56). -/
def Sys2Proof.Laws.EncodeFields.Statement (i : Sys2Proof.Instr) : Prop :=
  Sys2Proof.opcodeOf (Sys2Proof.encode i) = i.opcode ∧ Sys2Proof.operandOf (Sys2Proof.encode i) = i.operand

namespace Sys2Proof.Laws.EncodeFields

theorem ldmat1 (imm : Word) : Statement (.ldmat1 imm) := encode_fields _
theorem ldmat2 (imm : Word) : Statement (.ldmat2 imm) := encode_fields _
theorem ldtmat (imm : Word) : Statement (.ldtmat imm) := encode_fields _
theorem seed (imm : Word) : Statement (.seed imm) := encode_fields _
theorem seeda (imm : Word) : Statement (.seeda imm) := encode_fields _
theorem key (imm : Word) : Statement (.key imm) := encode_fields _
theorem step : Statement .step := encode_fields _
theorem tu64 : Statement .tu64 := encode_fields _
theorem td12 : Statement .td12 := encode_fields _
theorem td01 : Statement .td01 := encode_fields _
theorem tdoo : Statement .tdoo := encode_fields _
theorem tdoc : Statement .tdoc := encode_fields _
theorem td53 : Statement .td53 := encode_fields _
theorem gu64 : Statement .gu64 := encode_fields _
theorem gd12 : Statement .gd12 := encode_fields _
theorem gd01 : Statement .gd01 := encode_fields _
theorem gdoo : Statement .gdoo := encode_fields _
theorem gdoc : Statement .gdoc := encode_fields _
theorem gd53 : Statement .gd53 := encode_fields _
theorem rds0 : Statement .rds0 := encode_fields _
theorem rds1 : Statement .rds1 := encode_fields _
theorem rdmat1 : Statement .rdmat1 := encode_fields _
theorem rdmat2 : Statement .rdmat2 := encode_fields _
theorem rdtmat : Statement .rdtmat := encode_fields _
theorem rdstat : Statement .rdstat := encode_fields _
theorem rdexp : Statement .rdexp := encode_fields _

end Sys2Proof.Laws.EncodeFields
end

