-- ==== Sys2Proof/Laws/Transition.lean ====
section
/-! SUPPORT. The two words of the transition, one by one (spec/43_transition.md R95), and the two outcomes of certification
(spec/41_seed_scalar.md R83). -/

namespace Sys2Proof.Machine

/-- The new `S0`: the old `S1`, with `MAT1` folded in where bit 0 of the avalanche word is set. -/
theorem nextState_fst (s0 s1 : Word) (mat1 mat2 : Half) :
    (nextState s0 s1 mat1 mat2).1 =
      if (avalanche ((s0 &&& mask) ^^^ s1)).getLsbD 0 = true then s1 ^^^ zext64 mat1 else s1 := by
  unfold nextState
  generalize avalanche ((s0 &&& mask) ^^^ s1) = x
  cases h : x.getLsbD 0 <;> simp only [h, if_true, Bool.false_eq_true, if_false]

/-- The new `S1`: the avalanche word, with `MAT2` folded into its high half where its bit 0 is set. -/
theorem nextState_snd (s0 s1 : Word) (mat1 mat2 : Half) :
    (nextState s0 s1 mat1 mat2).2 =
      if (avalanche ((s0 &&& mask) ^^^ s1)).getLsbD 0 = true then
        avalanche ((s0 &&& mask) ^^^ s1) ^^^ (zext64 mat2 <<< 32)
      else avalanche ((s0 &&& mask) ^^^ s1) := by
  unfold nextState
  generalize avalanche ((s0 &&& mask) ^^^ s1) = x
  cases h : x.getLsbD 0 <;> simp only [h, if_true, Bool.false_eq_true, if_false]

/-- The transition looks at `S0` through the mask only. -/
theorem nextState_congr {s0 t0 : Word} (h : s0 &&& mask = t0 &&& mask) (s1 : Word) (mat1 mat2 : Half) :
    nextState s0 s1 mat1 mat2 = nextState t0 s1 mat1 mat2 := by
  rw [nextState, nextState, h]

theorem certify_of_zero {a b : Word} (c : Config) (h : a &&& mask = 0 ∧ b = 0) : certify c a b = (c.certS0, c.certS1) :=
  if_pos h

theorem certify_of_not_zero {a b : Word} (c : Config) (h : ¬(a &&& mask = 0 ∧ b = 0)) : certify c a b = (a, b) := if_neg h

end Sys2Proof.Machine
end

