-- ==== Sys2Proof/Tests/Slice0.lean ====
section
/-! SUPPORT. Tests: every expected value is one the spec prints (its rule is in the comment), or follows from a rule by hand. The
theorems `witness_…` show states and operands that meet the hypotheses of the obligation named, clause by clause. -/

namespace Sys2Proof.Tests

open Sys2Proof Sys2Proof.Machine

/-! ### Small states -/

/-- A core after reset whose valueless elements are zero: for tests only. -/
def bare : State where
  s0 := 0
  s1 := 0
  mat1 := 0xfa051f40
  mat2 := 0xffd0fff4
  tmat := 0x58d02ffeffbfffbc
  phase := .unseeded
  st := ⟨0, 0, 0, 0⟩
  i := 0
  j := 0
  keylen := 0
  config := Config.recommended
  draws := 0
  input := []
  responses := []

/-- `bare` with a generator state. -/
def ready (s0 s1 : Word) : State := { bare with s0 := s0, s1 := s1, phase := .ready }

/-- The state after `SEED 1` with the default parameters (41 R82). -/
def seeded : State := ready 0xef3749c1ffd2ccc4 0x72814062c076e9b8

/-- `bare` in a key load of `n` words, `k` of them consumed, primed for key length 1 under `DOC` (42 R94). -/
def loading (n k : Half) : State :=
  { bare with
    phase := .keyload
    st := ⟨0xcc0f6faf2dc8c81f, 0xcc0f6fb027cde75f, 0xcc0f6fb02d99c813, 0x58d02ffeffbfffbc⟩
    i := 1 + k.setWidth 2
    j := k
    keylen := n }

/-- `s` with the parameters of the hardware under profile `REF`. -/
def underRef (s : State) : State := { s with config := { s.config with profile := .ref } }

/-- The state an outcome gives. -/
def after (r : Result) : State :=
  match r with
  | .next t => t
  | .fault _ => bare
  | .refused _ => bare

/-- The last response an outcome delivers. -/
def answered (r : Result) : Option Response := (after r).responses.getLast?

/-- A host session over core `s` and empty memory. -/
def session (s : State) : Session := ⟨s, []⟩

/-! ### Well-formed commands (30 R58, 60 R155) -/

theorem test_wellFormed_ldmat1_wide : (Instr.ldmat1 0x100000000).wellFormed Config.recommended = false := by decide

theorem test_wellFormed_ldmat1_fits : (Instr.ldmat1 0xffffffff).wellFormed Config.recommended = true := by decide

theorem test_wellFormed_ldmat2_wide : (Instr.ldmat2 0x8000000000000000).wellFormed Config.recommended = false := by decide

theorem test_wellFormed_ldmat2_fits : (Instr.ldmat2 0).wellFormed Config.recommended = true := by decide

theorem test_wellFormed_seeda_zero : (Instr.seeda 0).wellFormed Config.recommended = false := by decide

theorem test_wellFormed_seeda_too_long : (Instr.seeda 0x80000000).wellFormed Config.recommended = false := by decide

theorem test_wellFormed_seeda_longest : (Instr.seeda 0x7fffffff).wellFormed Config.recommended = true := by decide

theorem test_wellFormed_seeda_one : (Instr.seeda 1).wellFormed Config.recommended = true := by decide


/-! ### Decoding: one word per command, written out from table R60 (30 R56, R60) -/

theorem test_decode_ldmat1 : decode 0x1000000000fa051f40 = .ok (.ldmat1 0xfa051f40) := by decide

theorem test_decode_ldmat2 : decode 0x1100000000ffd0fff4 = .ok (.ldmat2 0xffd0fff4) := by decide

theorem test_decode_ldtmat : decode 0x1258d02ffeffbfffbc = .ok (.ldtmat 0x58d02ffeffbfffbc) := by decide

theorem test_decode_seed : decode 0x200000000000000001 = .ok (.seed 1) := by decide

theorem test_decode_seeda : decode 0x210000000000000001 = .ok (.seeda 1) := by decide

theorem test_decode_key : decode 0x22fedcba9876543210 = .ok (.key 0xfedcba9876543210) := by decide

theorem test_decode_step : decode 0x300000000000000000 = .ok .step := by decide

theorem test_decode_tu64 : decode 0x40ffffffffffffffff = .ok .tu64 := by decide

theorem test_decode_td12 : decode 0x410000000000000000 = .ok .td12 := by decide

theorem test_decode_td01 : decode 0x42ffffffffffffffff = .ok .td01 := by decide

theorem test_decode_tdoo : decode 0x430000000000000000 = .ok .tdoo := by decide

theorem test_decode_tdoc : decode 0x44ffffffffffffffff = .ok .tdoc := by decide

theorem test_decode_td53 : decode 0x450000000000000000 = .ok .td53 := by decide

theorem test_decode_gu64 : decode 0x50ffffffffffffffff = .ok .gu64 := by decide

theorem test_decode_gd12 : decode 0x510000000000000000 = .ok .gd12 := by decide

theorem test_decode_gd01 : decode 0x52ffffffffffffffff = .ok .gd01 := by decide

theorem test_decode_gdoo : decode 0x530000000000000000 = .ok .gdoo := by decide

theorem test_decode_gdoc : decode 0x54ffffffffffffffff = .ok .gdoc := by decide

theorem test_decode_gd53 : decode 0x550000000000000000 = .ok .gd53 := by decide

theorem test_decode_rds0 : decode 0x60ffffffffffffffff = .ok .rds0 := by decide

theorem test_decode_rds1 : decode 0x610000000000000000 = .ok .rds1 := by decide

theorem test_decode_rdmat1 : decode 0x62ffffffffffffffff = .ok .rdmat1 := by decide

theorem test_decode_rdmat2 : decode 0x630000000000000000 = .ok .rdmat2 := by decide

theorem test_decode_rdtmat : decode 0x64ffffffffffffffff = .ok .rdtmat := by decide

theorem test_decode_rdstat : decode 0x650000000000000000 = .ok .rdstat := by decide

theorem test_decode_rdexp : decode 0x66ffffffffffffffff = .ok .rdexp := by decide


/-- The all-zero word, the all-ones word and the words beside each class are reserved (30 R65). -/
theorem test_decode_reserved :
    decode 0 = .error (.reservedOpcode 0x00) ∧
    decode 0xffffffffffffffffff = .error (.reservedOpcode 0xff) ∧
    decode 0x130000000000000000 = .error (.reservedOpcode 0x13) ∧
    decode 0x460000000000000001 = .error (.reservedOpcode 0x46) := by decide

theorem test_encode_operand_kept : encode (.key 0x8000000000000001) = 0x228000000000000001 := by decide

theorem test_decodeTableWord : decodeTableWord 72 0x30ffffffffffffffff = some .step ∧ decodeTableWord 72 0 = none := by decide

/-! ### One step of each command (40 to 45; the values of R82, R94, R97, R119, and each rule's own example) -/

theorem test_ldmat1 :
    (after (exec (.ldmat1 1) seeded)).mat1 = 1 ∧ (after (exec (.ldmat1 1) seeded)).phase = .unseeded ∧
    answered (exec (.ldmat1 1) seeded) = some ⟨.ok, 0⟩ := by decide

theorem test_ldmat1_wide :
    exec (.ldmat1 0x100000000) seeded = .next { seeded with responses := [⟨.errArg, 0⟩] } := by rfl

theorem test_ldmat2 :
    (after (exec (.ldmat2 0xffffffff) bare)).mat2 = 0xffffffff ∧ (after (exec (.ldmat2 0xffffffff) bare)).mat1 = 0xfa051f40 := by
  decide

theorem test_ldmat2_keeps_load :
    exec (.ldmat2 0xffffffff00000000) (loading 2 1) = .next { loading 2 1 with responses := [⟨.errArg, 0⟩] } := by rfl

theorem test_ldtmat :
    (after (exec (.ldtmat 0) (loading 2 1))).tmat = 0 ∧ (after (exec (.ldtmat 0) (loading 2 1))).phase = .unseeded := by decide

theorem test_seed_one :
    (after (exec (.seed 1) bare)).s0 = 0xef3749c1ffd2ccc4 ∧ (after (exec (.seed 1) bare)).s1 = 0x72814062c076e9b8 ∧
    (after (exec (.seed 1) bare)).phase = .ready := by decide

/-- 41 R84: certification fires. -/
theorem test_seed_certified :
    let s := { bare with mat1 := 0, mat2 := 0, tmat := 0x0749b0d8ff87a0a9 }
    (after (exec (.seed 0x566356007c200234) s)).s0 = 0x54 ∧ (after (exec (.seed 0x566356007c200234) s)).s1 = 0x4d := by decide

theorem test_seeda_doc :
    (after (exec (.seeda 1) seeded)).st =
      ⟨0xcc0f6faf2dc8c81f, 0xcc0f6fb027cde75f, 0xcc0f6fb02d99c813, 0x58d02ffeffbfffbc⟩ ∧
    (after (exec (.seeda 1) seeded)).i = 1 ∧ (after (exec (.seeda 1) seeded)).phase = .keyload := by decide

theorem test_seeda_ref :
    (after (exec (.seeda 1) (underRef bare))).st =
      ⟨0xcc0f6faf2dc8c820, 0xcc0f6fb027cde75f, 0xcc0f6fb02d99c814, 0x58d02ffeffbfffbc⟩ := by decide

/-- The last key word: 42 R94, profile `DOC`. -/
theorem test_key_last :
    (after (exec (.key 1) (loading 1 0))).s0 = 0xc70d7d58636aa1c3 ∧
    (after (exec (.key 1) (loading 1 0))).s1 = 0xa837f7d21b6c1de9 ∧
    (after (exec (.key 1) (loading 1 0))).phase = .ready := by decide

/-- A key word that is not the last: the buffer of 42 R94 after one mixing iteration, profile `DOC`. -/
theorem test_key_mixes :
    (after (exec (.key 1) (loading 2 0))).st =
      ⟨0xcc0f6faf2dc8c81f, 0x089f7af5ba0f763a, 0xd4aeeaa5e7a93e4d, 0x616faaf4b9cf75f8⟩ ∧
    (after (exec (.key 1) (loading 2 0))).i = 2 ∧ (after (exec (.key 1) (loading 2 0))).j = 1 := by decide

/-- 42 R94, profile `REF`, both commands. -/
theorem test_key_last_ref :
    (after (execAll (arraySeeding [1]) (underRef bare))).s0 = 0xd3c8f5e8811422bc ∧
    (after (execAll (arraySeeding [1]) (underRef bare))).s1 = 0xe9fd84ad80cdb508 := by decide

theorem test_step :
    (after (exec .step seeded)).s0 = 0x728140623a73f6f8 ∧ (after (exec .step seeded)).s1 = 0x1d08fa8efe26f725 := by decide

/-- Transition 2 of 43 R97: bit 0 of the avalanche word is 0. -/
theorem test_step_even :
    (after (exec .step (ready 0x728140623a73f6f8 0x1d08fa8efe26f725))).s0 = 0x1d08fa8efe26f725 ∧
    (after (exec .step (ready 0x728140623a73f6f8 0x1d08fa8efe26f725))).s1 = 0xd2c63ade1d540774 := by decide

/-- A row of table R119: bit 0 of `temper_x` is 1. -/
def corner : State := ready 0xffffffffffffffff 0x0000000000000001

/-- Another row of table R119. -/
def corner2 : State := ready 0 0x0000000000000ffe

theorem test_tu64 : answered (exec .tu64 corner) = some ⟨.ok, 0x582fd00100400043⟩ := by decide

theorem test_tu64_corner : answered (exec .tu64 corner2) = some ⟨.ok, 0xffe⟩ := by decide

theorem test_td12 : answered (exec .td12 corner) = some ⟨.ok, 0x3ff582fd00100400⟩ := by decide

theorem test_td12_corner : answered (exec .td12 corner2) = some ⟨.ok, 0x3ff0000000000000⟩ := by decide

theorem test_td01 : answered (exec .td01 corner) = some ⟨.ok, 0x3fd60bf400401000⟩ := by decide

theorem test_td01_corner : answered (exec .td01 corner2) = some ⟨.ok, 0⟩ := by decide

theorem test_tdoo : answered (exec .tdoo corner) = some ⟨.ok, 0x3fd60bf400401004⟩ := by decide

theorem test_tdoo_corner : answered (exec .tdoo corner2) = some ⟨.ok, 0x3cb0000000000000⟩ := by decide

theorem test_tdoc : answered (exec .tdoc corner) = some ⟨.ok, 0x3fe4fa05ffdff800⟩ := by decide

theorem test_tdoc_corner : answered (exec .tdoc corner2) = some ⟨.ok, 0x3ff0000000000000⟩ := by decide

theorem test_td53 : answered (exec .td53 corner) = some ⟨.ok, 0x3fd60bf400401000⟩ := by decide

theorem test_td53_corner : answered (exec .td53 corner2) = some ⟨.ok, 0x3ca0000000000000⟩ := by decide


theorem test_gu64 :
    answered (exec .gu64 seeded) = some ⟨.ok, 0xd728944fa51f6257⟩ ∧ (after (exec .gu64 seeded)).s0 = 0x728140623a73f6f8 := by decide

theorem test_gd12 :
    answered (exec .gd12 seeded) = some ⟨.ok, 0x3ffd728944fa51f6⟩ ∧ (after (exec .gd12 seeded)).s0 = 0x728140623a73f6f8 := by decide

theorem test_gd01 :
    answered (exec .gd01 seeded) = some ⟨.ok, 0x3feae51289f4a3ec⟩ ∧ (after (exec .gd01 seeded)).s0 = 0x728140623a73f6f8 := by decide

theorem test_gdoo :
    answered (exec .gdoo seeded) = some ⟨.ok, 0x3feae51289f4a3ee⟩ ∧ (after (exec .gdoo seeded)).s0 = 0x728140623a73f6f8 := by decide

theorem test_gdoc :
    answered (exec .gdoc seeded) = some ⟨.ok, 0x3fc46bb5d82d7050⟩ ∧ (after (exec .gdoc seeded)).s0 = 0x728140623a73f6f8 := by decide

theorem test_gd53 :
    answered (exec .gd53 seeded) = some ⟨.ok, 0x3feae51289f4a3ec⟩ ∧ (after (exec .gd53 seeded)).s0 = 0x728140623a73f6f8 := by decide

theorem test_gu64_unseeded : exec .gu64 (loading 2 1) = .next { loading 2 1 with responses := [⟨.errUnseeded, 0⟩] } := by rfl

theorem test_rds0 : answered (exec .rds0 seeded) = some ⟨.ok, 0xef3749c1ffd2ccc4⟩ := by decide

theorem test_rds0_unseeded : answered (exec .rds0 bare) = some ⟨.errUnseeded, 0⟩ := by decide

theorem test_rds1 : answered (exec .rds1 seeded) = some ⟨.ok, 0x72814062c076e9b8⟩ := by decide

theorem test_rdmat1 : answered (exec .rdmat1 bare) = some ⟨.ok, 0x00000000fa051f40⟩ := by decide

theorem test_rdmat2 : answered (exec .rdmat2 bare) = some ⟨.ok, 0x00000000ffd0fff4⟩ := by decide

theorem test_rdtmat : answered (exec .rdtmat bare) = some ⟨.ok, 0x58d02ffeffbfffbc⟩ := by decide

theorem test_rdstat :
    answered (exec .rdstat bare) = some ⟨.ok, 0⟩ ∧ answered (exec .rdstat (loading 2 1)) = some ⟨.ok, 1⟩ ∧
    answered (exec .rdstat seeded) = some ⟨.ok, 2⟩ := by decide

theorem test_rdexp : answered (exec .rdexp bare) = some ⟨.ok, 127⟩ := by decide

/-! ### Steps from reset -/

/-- After reset with a table word presented, the first step runs exactly it. -/
theorem test_first_step_after_reset :
    answered (step (State.reset.withFetchWord 72 0x660000000000000000)) = some ⟨.ok, 127⟩ ∧
    answered (step (State.reset.withFetchWord 72 0x500000000000000000)) = some ⟨.errUnseeded, 0⟩ ∧
    answered (step (State.reset.withFetchWord 72 0xff0000000000000000)) = some ⟨.errIllegal, 0⟩ := by decide

theorem test_reset_input :
    (after (step { seeded with mat1 := 7, input := [.reset, .reset] })).mat1 = 0xfa051f40 ∧
    (after (step { seeded with mat1 := 7, input := [.reset, .reset] })).phase = .unseeded ∧
    (after (step { seeded with mat1 := 7, input := [.reset, .reset] })).input = [.reset] ∧
    (after (step { seeded with mat1 := 7, input := [.reset, .reset] })).responses = [] := by decide

theorem test_response_word : responseWord ⟨.errSeq, 0⟩ = 0x40000000000000000 ∧ responseWord ⟨.ok, 5⟩ = 5 := by decide

/-! ### Host sequences (46, the examples of R135, R140 to R143, R147) -/

theorem test_newp_certified :
    (hostNewp (session bare) 0x6774e8e58a4a1a06 0 0 0x973f4b585254109a).session.core.s0 = 0x54 := by decide

theorem test_nextInt : (hostNextInt (session seeded)).result = .ok 622813783 := by decide

theorem test_nextIntMax :
    (hostNextIntMax (session seeded) 100).result = .ok 84 ∧ (hostNextIntMax (session seeded) 2147483647).result = .ok 1804880422 ∧
    (hostNextIntMax (session seeded) 0).result = .ok 0 ∧
    (hostNextIntMax (session seeded) 0xffffffff).result = .error .invalidArgument := by decide

theorem test_nextIntRange :
    (hostNextIntRange (session seeded) (-5) 5).result = .ok 3 ∧
    (hostNextIntRange (session seeded) 0x80000000 0x7fffffff).result = .ok 1462277198 ∧
    (hostNextIntRange (session seeded) 7 7).result = .ok 7 ∧
    (hostNextIntRange (session seeded) 5 2).result = .error .invalidArgument := by decide

/-- 46 R141: the product rounds up to 512. -/
theorem test_scaleTrunc_rounds : scaleTrunc 0x80000001 2147483647 = 512 := by decide

theorem test_nextBytes :
    (hostNextBytes (session seeded) (some 0) 10).session.mem =
      [(0, 0x57), (1, 0x62), (2, 0x1f), (3, 0xa5), (4, 0x4f), (5, 0x94), (6, 0x28), (7, 0xd7), (8, 0x6e), (9, 0xd8)] := by
  decide

theorem test_hostMemory_form :
    hostMemoryWf (hostWrite (hostWrite [] 5 1) 3 2) = true ∧ hostWrite (hostWrite [] 5 1) 5 2 = [(5, 2)] ∧
    hostRead (hostWrite [] 5 1) 4 = none := by decide

theorem test_assemble :
    assembleLine "LDTMAT 18446744073709551616".toList = .error .badOperand ∧
    assembleLine "STEP 1".toList = .error .wrongOperandCount ∧ assembleLine "NOP".toList = .error .unknownMnemonic ∧
    assembleLine "  ; nothing".toList = .ok none := by decide

/-! ### Witnesses for the hypotheses of the obligations -/

/-- Formats D, W and N. -/
theorem witness_EncodeDecodeRoundTrip :
    decode 0x2200000000000000ff = .ok (.key 0xff) ∧ (Instr.key 0xff).format ≠ .n ∧
    decode 0x1000000000ffffffff = .ok (.ldmat1 0xffffffff) ∧ (Instr.ldmat1 0xffffffff).format ≠ .n ∧
    decode 0x5500000000000000ff = .ok .gd53 ∧ Instr.gd53.format = .n := by decide

/-- The ends of the ranges of 30 R65, and opcodes beside them. -/
theorem witness_DecoderRefusesExactlyReserved :
    (∀ op ∈ [0x00#8, 0x0f, 0x13, 0x1f, 0x23, 0x2f, 0x31, 0x3f, 0x46, 0x4f, 0x56, 0x5f, 0x67, 0xff],
      reservedOpcode (opcodeOf (commandWord op 0))) ∧
    (∀ op ∈ [0x10#8, 0x12, 0x20, 0x22, 0x30, 0x40, 0x45, 0x50, 0x55, 0x60, 0x66],
      ¬reservedOpcode (opcodeOf (commandWord op 0))) := by
  unfold reservedOpcode
  decide

theorem witness_ReservedOpcodeAnswersIllegal :
    reservedOpcode 0x67 ∧
    ({ bare with input := [.command (commandWord 0x67 5), .reset] } : State).input =
      .command (commandWord 0x67 5) :: [.reset] := by
  unfold reservedOpcode
  decide

theorem witness_StepRunsDecodedCommand :
    ({ bare with input := [.command 0x200000000000000001] } : State).input = .command 0x200000000000000001 :: [] ∧
    decode 0x200000000000000001 = .ok (.seed 1) := by decide

theorem witness_IdleStepHoldsState : seeded.input = [] := by decide

theorem witness_ResetInputGivesResetState :
    ({ loading 2 1 with input := [.reset, .reset] } : State).input = .reset :: [.reset] := by decide

/-- A word that decodes and one that does not. -/
theorem witness_EveryCommandAnsweredOnce :
    ({ bare with input := [.command 0x660000000000000000] } : State).input = .command 0x660000000000000000 :: [] ∧
    ({ bare with input := [.command 0] } : State).input = .command 0 :: [] := by decide

/-- The largest operand that fits and the smallest that does not, for `LDMAT1` and `LDMAT2`. -/
theorem witness_LoadMat1Result :
    (0x100000000 : Word).extractLsb' 32 32 ≠ 0 ∧ (0xffffffff : Word).extractLsb' 32 32 = 0 := by decide

theorem witness_LoadMat2Result :
    (0xffffffff00000000 : Word).extractLsb' 32 32 ≠ 0 ∧ (0 : Word).extractLsb' 32 32 = 0 := by decide

/-- A command that is none of the loads and ends in `READY`. -/
theorem witness_ParametersFixedWhileGeneratorLives :
    exec .step seeded = .next (after (exec .step seeded)) ∧ (after (exec .step seeded)).phase = .ready ∧
    (∀ w, Instr.step ≠ .ldmat1 w) ∧ (∀ w, Instr.step ≠ .ldmat2 w) ∧ (∀ w, Instr.step ≠ .ldtmat w) := by
  refine ⟨rfl, rfl, ?_, ?_, ?_⟩ <;> simp

/-- Both kinds of pair, bit 63 set and the lowest bit of the second word set. -/
theorem witness_CertificationRemovesDegeneratePair :
    ((0x8000000000000000 : Word) &&& 0x7fffffffffffffff = 0 ∧ (0 : Word) = 0) ∧
    ¬((0x8000000000000000 : Word) &&& 0x7fffffffffffffff = 0 ∧ (1 : Word) = 0) ∧
    configValid Config.recommended = true := by decide

/-- The lengths 0, 1, `KEYLEN_MAX` and `KEYLEN_MAX + 1`. -/
theorem witness_SeedaResult :
    ((0 : Word) = 0 ∨ (0 : Word).toNat > bare.config.keylenMax) ∧
    ((0x80000000 : Word) = 0 ∨ (0x80000000 : Word).toNat > bare.config.keylenMax) ∧
    ¬((1 : Word) = 0 ∨ (1 : Word).toNat > bare.config.keylenMax) ∧
    ¬((0x7fffffff : Word) = 0 ∨ (0x7fffffff : Word).toNat > bare.config.keylenMax) := by decide

/-- Outside a key load, the last word but one, and the last word. -/
theorem witness_KeyResult :
    seeded.phase ≠ .keyload ∧ ((loading 2 0).phase = .keyload ∧ (loading 2 0).j + 1 ≠ (loading 2 0).keylen) ∧
    ((loading 2 1).phase = .keyload ∧ (loading 2 1).j + 1 = (loading 2 1).keylen) := by decide

theorem witness_StreamedKeyLoadEqualsWholeKey :
    configValid seeded.config = true ∧ 1 ≤ ([1] : List Word).length ∧ ([1] : List Word).length ≤ seeded.config.keylenMax := by
  decide

theorem witness_LoadsAndSeedIdempotent :
    ((Instr.seed 5) = .ldmat1 5 ∨ (Instr.seed 5) = .ldmat2 5 ∨ (Instr.seed 5) = .ldtmat 5 ∨ (Instr.seed 5) = .seed 5) := by
  decide

theorem witness_StepResult : (loading 2 1).phase ≠ .ready ∧ seeded.phase = .ready := by decide

/-- Two pairs with the same image that differ in bit 63 of the first word. -/
theorem witness_TransitionInjective :
    (nextState 0x8000000000000001 7 1 1).1 &&& mask = (nextState 1 7 1 1).1 &&& mask ∧
    (nextState 0x8000000000000001 7 1 1).2 = (nextState 1 7 1 1).2 := by decide

theorem witness_TransitionSignificantBits : (0x8000000000000000 : Word) &&& mask = 0 ∧ (0 : Word) = 0 := by decide

theorem witness_GeneratorMovesOnlyByTransition :
    seeded.phase = .ready ∧ (∀ w, Instr.gu64 ≠ .seed w) ∧ exec .gu64 seeded = .next (after (exec .gu64 seeded)) ∧
    (after (exec .gu64 seeded)).phase = .ready ∧ advances .gu64 = true ∧
    exec .tu64 seeded = .next (after (exec .tu64 seeded)) ∧ (after (exec .tu64 seeded)).phase = .ready ∧
    advances .tu64 = false := by
  refine ⟨rfl, by simp, rfl, rfl, rfl, rfl, rfl, rfl⟩

theorem witness_TemperReadResults : bare.phase ≠ .ready ∧ corner.phase = .ready := by decide

theorem witness_GenerateResults : bare.phase ≠ .ready ∧ seeded.phase = .ready := by decide

theorem witness_GenerateIsStepThenTemper : (Instr.gdoc, Instr.tdoc) ∈ generatePairs ∧ seeded.phase = .ready := by decide

/-- Both ends of both domains. -/
theorem witness_ScaledDoubleIsExact :
    (0 ≤ 2 ^ 52 ∧ 2 ^ 52 ≤ 2 ^ 52) ∧ (0 ≤ 2 ^ 53 - 1 ∧ 2 ^ 53 - 1 ≤ 2 ^ 53 - 1) := by decide

theorem witness_StatusWordReads : (loading 2 1).phase ≠ .ready ∧ seeded.phase = .ready := by decide

theorem witness_ReadsChangeNothing : readsOnly .td53 = true ∧ readsOnly .rdstat = true := by decide

theorem witness_ErrorChangesNothing :
    let s : State := { seeded with input := [.command 0x10ffffffff00000000] }
    s.input = .command 0x10ffffffff00000000 :: [] ∧ step s = .next (after (step s)) ∧
    (after (step s)).responses = s.responses ++ [⟨.errArg, 0⟩] ∧ (⟨.errArg, 0⟩ : Response).status ≠ .ok := by
  refine ⟨rfl, rfl, rfl, ?_⟩
  decide

/-- A word that is no command, and one that is. -/
theorem witness_StatusFollowsErrorTable :
    ({ seeded with input := [.command 0xff0000000000000000] } : State).input = .command 0xff0000000000000000 :: [] ∧
    ({ seeded with input := [.command 0x220000000000000000] } : State).input = .command 0x220000000000000000 :: [] := by decide

theorem witness_ErrorCausesExclude : (needsGenerator .rds0 = true ∨ isKey .rds0 = true) ∧
    (needsGenerator (.key 0) = true ∨ isKey (.key 0) = true) := by decide

/-- In a key load, and outside one. -/
theorem witness_PhaseFollowsPhaseTable :
    ((loading 2 1).phase = .keyload ∧ ((loading 2 1).phase = .keyload → (loading 2 1).j.toNat < (loading 2 1).keylen.toNat)) ∧
    (seeded.phase = .keyload → seeded.j.toNat < seeded.keylen.toNat) := by decide

/-- In each phase, with an error already answered. -/
theorem witness_StepKeepsInvariant :
    let s : State := { loading 2 1 with input := [.command 0x220000000000000001], responses := [⟨.errSeq, 0⟩] }
    let t : State := { seeded with input := [.command 0x300000000000000000] }
    s.Inv ∧ step s = .next (after (step s)) ∧ t.Inv ∧ step t = .next (after (step t)) := by
  refine ⟨?_, rfl, ?_, rfl⟩ <;> unfold State.Inv <;> decide

/-- Two states that differ in what holds no value, in each phase. -/
theorem witness_ValuesNotHeldAreUnobservable :
    (bare.view = ({ bare with s0 := 5, j := 9 } : State).view ∧ bare.input = ({ bare with s0 := 5, j := 9 } : State).input) ∧
    seeded.view = ({ seeded with i := 3 } : State).view ∧
    (loading 2 1).view = ({ loading 2 1 with s1 := 7 } : State).view := by decide

/-- The lengths 0, `KEYLEN_MAX` and `KEYLEN_MAX + 1`, on a core built for keys of one word. -/
theorem witness_NewapConstructs :
    let h := session { bare with config := { Config.recommended with keylenMax := 1 } }
    configValid h.core.config = true ∧
    (([] : List Word).length = 0 ∨ ([] : List Word).length > h.core.config.keylenMax) ∧
    (([1, 2] : List Word).length = 0 ∨ ([1, 2] : List Word).length > h.core.config.keylenMax) ∧
    ¬(([1] : List Word).length = 0 ∨ ([1] : List Word).length > h.core.config.keylenMax) := by decide

theorem witness_RenamedOperations : (session seeded).core.phase = .ready := by decide

theorem witness_NextIntLowBits : (session seeded).core.phase = .ready := by decide

/-- The largest draw, with the largest, the smallest positive and the empty range. -/
theorem witness_ScaleTruncBelowRange :
    2 ^ 53 - 1 < 2 ^ 53 ∧ 2 ^ 32 - 1 ≤ 2 ^ 32 - 1 ∧ 0 < 2 ^ 32 - 1 ∧ 0 < 1 ∧ 1 ≤ 2 ^ 32 - 1 ∧ 0 ≤ 2 ^ 32 - 1 := by decide

theorem witness_DrawReadsBackScaledDouble : 0 < 2 ^ 53 ∧ 2 ^ 53 - 1 < 2 ^ 53 := by decide

/-- `max` at -1, 0, 1 and the largest. -/
theorem witness_NextIntMaxLaw :
    (0xffffffff : Half).toInt < 0 ∧ 0 ≤ (0 : Half).toInt ∧ (0 : Half).toInt = 0 ∧ 0 < (1 : Half).toInt ∧
    0 < (0x7fffffff : Half).toInt ∧ (session seeded).core.phase = .ready := by decide

/-- The widest range, an empty one, and a reversed one. -/
theorem witness_NextIntRangeLaw :
    (0x80000000 : Half).toInt < (0x7fffffff : Half).toInt ∧ (7 : Half).toInt = (7 : Half).toInt ∧
    (5 : Half).toInt > (4 : Half).toInt ∧ (session seeded).core.phase = .ready := by decide

/-- Ten bytes at address 4: the first, the eighth, the ninth and the last byte, and the addresses on either side. -/
theorem witness_NextBytesFills :
    (session seeded).core.phase = .ready ∧ 0 < 10 ∧ 7 < 10 ∧ 8 < 10 ∧ 9 < 10 ∧ (3 < 4 ∨ 4 + 10 ≤ 3) ∧ (14 < 4 ∨ 4 + 10 ≤ 14) := by
  decide

end Sys2Proof.Tests
end

section
/-! PROOFS. The double patterns of spec/00_scope.md R12 and R13. `f64_scaled` normalises `n` by the shift `52 - k` with
`k = floor(log2 n)`; everything below turns on one fact, that the fraction field with its implicit leading one put back
is `n * 2^(52 - k)` exactly (`implicitOne_add_fraction_f64Scaled`). -/

namespace Sys2Proof.Machine

variable {n s : Nat} {u : Word}

/-! ### What a pattern denotes -/

theorem ne_zero_of_one_le_exponent (he : 1 ≤ (u.extractLsb' 52 11).toNat) : u ≠ 0 := by
  rintro rfl
  exact absurd he (by decide)

/-- R12 for a positive normal double. -/
theorem doubleValue_of_normal (hsign : u.extractLsb' 63 1 = 0)
    (he : 1 ≤ (u.extractLsb' 52 11).toNat ∧ (u.extractLsb' 52 11).toNat ≤ 2046) :
    doubleValue u = some ((2 : ℚ) ^ (((u.extractLsb' 52 11).toNat : ℤ) - 1023) *
      (1 + ((u.extractLsb' 0 52).toNat : ℚ) / 2 ^ 52)) := by
  rw [doubleValue, if_neg (ne_zero_of_one_le_exponent he.1), if_pos he, hsign]
  simp

theorem draw53_of_ne_zero (h : u ≠ 0) :
    draw53 u = (2 ^ 52 + (u.extractLsb' 0 52).toNat) >>> (1022 - (u.extractLsb' 52 11).toNat) := if_neg h

@[simp] theorem f64Scaled_zero (s : Nat) : f64Scaled 0 s = 0 := rfl

/-! ### The three fields of the pattern -/

theorem f64Scaled_of_ne_zero (s : Nat) (hn : n ≠ 0) :
    f64Scaled n s = 0#1 ++ BitVec.ofNat 11 (1023 - s + n.log2) ++ BitVec.ofNat 52 (n <<< (52 - n.log2)) := if_neg hn

theorem sign_f64Scaled (s : Nat) (hn : n ≠ 0) : (f64Scaled n s).extractLsb' 63 1 = 0 := by
  rw [f64Scaled_of_ne_zero s hn]
  exact (BitVec.extractLsb'_append_eq_of_le (w := 52) (by decide)).trans BitVec.extractLsb'_append_eq_left

theorem exponent_f64Scaled (s : Nat) (hn : n ≠ 0) :
    (f64Scaled n s).extractLsb' 52 11 = BitVec.ofNat 11 (1023 - s + n.log2) := by
  rw [f64Scaled_of_ne_zero s hn]
  exact (BitVec.extractLsb'_append_eq_of_le (w := 52) (by decide)).trans BitVec.extractLsb'_append_eq_right

theorem fraction_f64Scaled (s : Nat) (hn : n ≠ 0) :
    (f64Scaled n s).extractLsb' 0 52 = BitVec.ofNat 52 (n <<< (52 - n.log2)) := by
  rw [f64Scaled_of_ne_zero s hn]
  exact BitVec.extractLsb'_append_eq_right

/-! ### Their values on the domain -/

theorem log2_le_of_lt_two_pow_53 (hn : n ≠ 0) (hlt : n < 2 ^ 53) : n.log2 ≤ 52 :=
  Nat.le_of_lt_succ ((Nat.log2_lt hn).mpr hlt)

theorem exponent_f64Scaled_toNat (hn : n ≠ 0) (hlt : n < 2 ^ 53) :
    ((f64Scaled n s).extractLsb' 52 11).toNat = 1023 - s + n.log2 := by
  have hk := log2_le_of_lt_two_pow_53 hn hlt
  rw [exponent_f64Scaled s hn, BitVec.toNat_ofNat]
  exact Nat.mod_eq_of_lt (by omega)

/-- Normalised, `n` has its leading one at bit 52. -/
theorem normalised_bounds (hn : n ≠ 0) (hlt : n < 2 ^ 53) :
    2 ^ 52 ≤ n * 2 ^ (52 - n.log2) ∧ n * 2 ^ (52 - n.log2) < 2 ^ 53 := by
  have hk := log2_le_of_lt_two_pow_53 hn hlt
  constructor
  · calc 2 ^ 52 = 2 ^ n.log2 * 2 ^ (52 - n.log2) := by rw [← pow_add, Nat.add_sub_cancel' hk]
      _ ≤ n * 2 ^ (52 - n.log2) := Nat.mul_le_mul_right _ (Nat.log2_self_le hn)
  · calc n * 2 ^ (52 - n.log2) < 2 ^ (n.log2 + 1) * 2 ^ (52 - n.log2) :=
          Nat.mul_lt_mul_of_pos_right Nat.lt_log2_self (Nat.two_pow_pos _)
      _ = 2 ^ 53 := by rw [← pow_add]; congr 1; omega

theorem implicitOne_add_fraction_f64Scaled (hn : n ≠ 0) (hlt : n < 2 ^ 53) :
    2 ^ 52 + ((f64Scaled n s).extractLsb' 0 52).toNat = n * 2 ^ (52 - n.log2) := by
  obtain ⟨hlo, hhi⟩ := normalised_bounds hn hlt
  rw [fraction_f64Scaled s hn, BitVec.toNat_ofNat, Nat.shiftLeft_eq]
  omega

theorem f64Scaled_ne_zero (hn : n ≠ 0) (hlt : n < 2 ^ 53) (hs : s < 1023) : f64Scaled n s ≠ 0 := by
  apply ne_zero_of_one_le_exponent
  rw [exponent_f64Scaled_toNat hn hlt]
  omega

/-! ### Reading the pattern as a number, and back as an integer -/

/-- Every integer of at most 53 bits, at every scale that keeps its exponent in the normal range, and so on the whole
domain of R13. -/
theorem doubleValue_f64Scaled (hlt : n < 2 ^ 53) (hs : s < 1023) :
    doubleValue (f64Scaled n s) = some ((n : ℚ) / 2 ^ s) := by
  rcases eq_or_ne n 0 with rfl | hn
  · simp [doubleValue]
  have hk := log2_le_of_lt_two_pow_53 hn hlt
  have hsig : (2 : ℚ) ^ 52 + ((f64Scaled n s).extractLsb' 0 52).toNat = n * 2 ^ (52 - n.log2) := by
    exact_mod_cast implicitOne_add_fraction_f64Scaled (s := s) hn hlt
  have hexp : ((1023 - s + n.log2 : ℕ) : ℤ) - 1023 = n.log2 - s := by omega
  have he := exponent_f64Scaled_toNat (s := s) hn hlt
  rw [doubleValue_of_normal (sign_f64Scaled s hn) (by omega), he, hexp]
  congr 1
  calc _ = (2 : ℚ) ^ ((n.log2 : ℤ) - s) * ((2 ^ 52 + ((f64Scaled n s).extractLsb' 0 52).toNat) / 2 ^ 52) := by
          simp [add_div]
    _ = 2 ^ n.log2 / 2 ^ s * (n * 2 ^ (52 - n.log2) / (2 ^ n.log2 * 2 ^ (52 - n.log2))) := by
          rw [hsig, zpow_sub₀ two_ne_zero, zpow_natCast, zpow_natCast, ← pow_add, Nat.add_sub_cancel' hk]
    _ = n / 2 ^ s := by field_simp

/-- The shift of the reading undoes the normalising shift of R13, and loses no bit. -/
theorem draw53_f64Scaled (hlt : n < 2 ^ 53) : draw53 (f64Scaled n 53) = n := by
  rcases eq_or_ne n 0 with rfl | hn
  · simp [draw53]
  have hshift : 1022 - (1023 - 53 + n.log2) = 52 - n.log2 := by omega
  rw [draw53_of_ne_zero (f64Scaled_ne_zero hn hlt (by decide)), implicitOne_add_fraction_f64Scaled hn hlt,
    exponent_f64Scaled_toNat hn hlt, hshift, Nat.shiftRight_eq_div_pow, Nat.mul_div_cancel _ (Nat.two_pow_pos _)]

/-- Settles O33, both scales by `doubleValue_f64Scaled`: every `n` of either domain has at most 53 bits (the IEEE layout
is log entry 9). -/
theorem scaledDoubleIsExact : Obligations.ScaledDoubleIsExact := by
  intro n
  constructor
  · intro hn
    exact doubleValue_f64Scaled (by omega) (by decide)
  · intro hn
    exact doubleValue_f64Scaled (by omega) (by decide)

/-- Settles O52, by `draw53_f64Scaled`: the reading shifts the normalised significand back (the arithmetic of the
reading is log entry 16). -/
theorem drawReadsBackScaledDouble : Obligations.DrawReadsBackScaledDouble := fun _ hv => draw53_f64Scaled hv

end Sys2Proof.Machine
end

section
/-! PROOFS. What a command can do, said once: a command that table R155 answers with an error changes nothing
(`exec_of_error`), and an accepted one ends in one of nine ways (`Accepted`, `exec_accepted`). -/

namespace Sys2Proof.Machine

variable {s t : State} {i : Instr}

/-! ### The beginning of a key load -/

/-- The state an accepted `SEEDA` leaves (42 R86), before its response. -/
def State.beginKeyLoad (s : State) (n : Half) : State :=
  (((((s.writeKeylen n).writeMixer (primedBuffer s.config.profile s.mat1 s.mat2 s.tmat n) 1).writeJ 0).setPhase
    .keyload).dropGenerator)

@[simp] theorem State.beginKeyLoad_mat1 (n : Half) : (s.beginKeyLoad n).mat1 = s.mat1 := rfl
@[simp] theorem State.beginKeyLoad_mat2 (n : Half) : (s.beginKeyLoad n).mat2 = s.mat2 := rfl
@[simp] theorem State.beginKeyLoad_tmat (n : Half) : (s.beginKeyLoad n).tmat = s.tmat := rfl
@[simp] theorem State.beginKeyLoad_phase (n : Half) : (s.beginKeyLoad n).phase = .keyload := rfl
@[simp] theorem State.beginKeyLoad_st (n : Half) :
    (s.beginKeyLoad n).st = primedBuffer s.config.profile s.mat1 s.mat2 s.tmat n := rfl
@[simp] theorem State.beginKeyLoad_i (n : Half) : (s.beginKeyLoad n).i = 1 := rfl
@[simp] theorem State.beginKeyLoad_j (n : Half) : (s.beginKeyLoad n).j = 0 := rfl
@[simp] theorem State.beginKeyLoad_keylen (n : Half) : (s.beginKeyLoad n).keylen = n := rfl
@[simp] theorem State.beginKeyLoad_config (n : Half) : (s.beginKeyLoad n).config = s.config := rfl
@[simp] theorem State.beginKeyLoad_input (n : Half) : (s.beginKeyLoad n).input = s.input := rfl
@[simp] theorem State.beginKeyLoad_responses (n : Half) : (s.beginKeyLoad n).responses = s.responses := rfl

/-! ### The commands with a checked operand -/

/-- A format-W operand fits exactly when its high half is zero (30 R58). -/
theorem extractLsb'_high_eq_zero_iff (imm : Word) : imm.extractLsb' 32 32 = 0 ↔ imm.toNat < 2 ^ 32 := by
  have hlt := imm.isLt
  simp only [← BitVec.toNat_inj, BitVec.extractLsb'_toNat, Nat.shiftRight_eq_div_pow, BitVec.ofNat_eq_ofNat,
    BitVec.toNat_ofNat]
  omega

/-- The two readings of `SEEDA`'s operand check agree (30 R58, 42 R86). -/
theorem keyLength_legal_iff (c : Config) (imm : Word) :
    ¬(imm = 0 ∨ imm.toNat > c.keylenMax) ↔ 1 ≤ imm.toNat ∧ imm.toNat ≤ c.keylenMax := by
  simp only [← BitVec.toNat_inj, BitVec.ofNat_eq_ofNat, BitVec.toNat_ofNat]
  omega

theorem exec_ldmat1_of_fits {imm : Word} (h : imm.toNat < 2 ^ 32) (s : State) :
    exec (.ldmat1 imm) s = .next ((s.writeMat1 (imm.extractLsb' 0 32)).endInstance.respond .ok 0) := by
  rw [exec, execLdmat1, operandW_of_fits ((extractLsb'_high_eq_zero_iff imm).mpr h)]
  rfl

theorem exec_ldmat1_of_wide {imm : Word} (h : ¬imm.toNat < 2 ^ 32) (s : State) :
    exec (.ldmat1 imm) s = .next (s.respond .errArg 0) := by
  rw [exec, execLdmat1, operandW_of_wide (mt (extractLsb'_high_eq_zero_iff imm).mp h)]
  rfl

theorem exec_ldmat2_of_fits {imm : Word} (h : imm.toNat < 2 ^ 32) (s : State) :
    exec (.ldmat2 imm) s = .next ((s.writeMat2 (imm.extractLsb' 0 32)).endInstance.respond .ok 0) := by
  rw [exec, execLdmat2, operandW_of_fits ((extractLsb'_high_eq_zero_iff imm).mpr h)]
  rfl

theorem exec_ldmat2_of_wide {imm : Word} (h : ¬imm.toNat < 2 ^ 32) (s : State) :
    exec (.ldmat2 imm) s = .next (s.respond .errArg 0) := by
  rw [exec, execLdmat2, operandW_of_wide (mt (extractLsb'_high_eq_zero_iff imm).mp h)]
  rfl

theorem exec_seeda_of_legal {imm : Word} (h : 1 ≤ imm.toNat ∧ imm.toNat ≤ s.config.keylenMax) :
    exec (.seeda imm) s = .next ((s.beginKeyLoad (imm.extractLsb' 0 32)).respond .ok 0) := by
  rw [exec, execSeeda, operandKeyLength_of_legal ((keyLength_legal_iff _ imm).mpr h)]
  rfl

theorem exec_seeda_of_illegal {imm : Word} (h : ¬(1 ≤ imm.toNat ∧ imm.toNat ≤ s.config.keylenMax)) :
    exec (.seeda imm) s = .next (s.respond .errArg 0) := by
  rw [exec, execSeeda, operandKeyLength_of_illegal (not_not.mp (mt (keyLength_legal_iff _ imm).mp h))]
  rfl

/-! ### The status of table R155 -/

theorem statusTable_eq_ok_iff {c : Config} {p : Phase} :
    statusTable c p i = .ok ↔
      (needsGenerator i = true → p = .ready) ∧ (isKey i = true → p = .keyload) ∧ i.wellFormed c = true := by
  unfold statusTable
  split_ifs with hgen hkey hwf <;> simp_all

/-- The three causes of an error, each with its status (60 R155). -/
theorem statusTable_error_cases {c : Config} {p : Phase} (h : statusTable c p i ≠ .ok) :
    (needsGenerator i = true ∧ p ≠ .ready ∧ statusTable c p i = .errUnseeded) ∨
    (isKey i = true ∧ p ≠ .keyload ∧ statusTable c p i = .errSeq) ∨
    (i.wellFormed c = false ∧ statusTable c p i = .errArg) := by
  unfold statusTable at h ⊢
  split_ifs at h ⊢ with hgen hkey hwf
  · exact .inl ⟨hgen.1, hgen.2, rfl⟩
  · exact .inr (.inl ⟨hkey.1, hkey.2, rfl⟩)
  · exact .inr (.inr ⟨hwf, rfl⟩)
  · exact absurd rfl h

theorem exec_of_no_generator (hi : needsGenerator i = true) (hp : s.phase ≠ .ready) :
    exec i s = .next (s.respond .errUnseeded 0) := by
  cases i with
  | step | tu64 | td12 | td01 | tdoo | tdoc | td53 | gu64 | gd12 | gd01 | gdoo | gdoc | gd53 | rds0 | rds1 =>
    exact whenReady_of_not_ready hp _
  | _ => cases hi

theorem exec_of_no_keyLoad (hi : isKey i = true) (hp : s.phase ≠ .keyload) :
    exec i s = .next (s.respond .errSeq 0) := by
  cases i with
  | key w => exact whenKeyload_of_not_keyload hp _
  | _ => cases hi

theorem exec_of_not_wellFormed (hi : i.wellFormed s.config = false) : exec i s = .next (s.respond .errArg 0) := by
  cases i with
  | ldmat1 imm => exact exec_ldmat1_of_wide (of_decide_eq_false hi) s
  | ldmat2 imm => exact exec_ldmat2_of_wide (of_decide_eq_false hi) s
  | seeda imm => exact exec_seeda_of_illegal (of_decide_eq_false hi)
  | _ => cases hi

/-- A command that table R155 does not answer with `OK` delivers its status with data 0 and does nothing else (60 R156). -/
theorem exec_of_error (h : statusTable s.config s.phase i ≠ .ok) :
    exec i s = .next (s.respond (statusTable s.config s.phase i) 0) := by
  obtain ⟨hi, hp, hst⟩ | ⟨hi, hp, hst⟩ | ⟨hi, hst⟩ := statusTable_error_cases h
  · rw [hst, exec_of_no_generator hi hp]
  · rw [hst, exec_of_no_keyLoad hi hp]
  · rw [hst, exec_of_not_wellFormed hi]

/-! ### What an accepted command does -/

/-- What a command answered `OK` makes of the state `s`: the whole effect of each kind of command, with the data left open
where a command answers a value. -/
inductive Accepted (s : State) : Instr → State → Prop where
  | read {i : Instr} (hi : readsOnly i = true) (d : Word) : Accepted s i (s.respond .ok d)
  | advance {i : Instr} (hi : advances i = true) (hp : s.phase = .ready) (d : Word) : Accepted s i (s.advance.respond .ok d)
  | ldmat1 (imm : Word) : Accepted s (.ldmat1 imm) ((s.writeMat1 (imm.extractLsb' 0 32)).endInstance.respond .ok 0)
  | ldmat2 (imm : Word) : Accepted s (.ldmat2 imm) ((s.writeMat2 (imm.extractLsb' 0 32)).endInstance.respond .ok 0)
  | ldtmat (imm : Word) : Accepted s (.ldtmat imm) ((s.writeTmat imm).endInstance.respond .ok 0)
  | seed (imm : Word) :
      Accepted s (.seed imm) ((s.becomeReady (seedScalar s.config s.mat1 s.mat2 s.tmat imm)).respond .ok 0)
  | seeda (imm : Word) (hn : 1 ≤ imm.toNat ∧ imm.toNat ≤ s.config.keylenMax) :
      Accepted s (.seeda imm) ((s.beginKeyLoad (imm.extractLsb' 0 32)).respond .ok 0)
  | keyNext (w : Word) (hp : s.phase = .keyload) (hj : s.j + 1 ≠ s.keylen) :
      Accepted s (.key w) ((s.consumeKey w).respond .ok 0)
  | keyLast (w : Word) (hp : s.phase = .keyload) (hj : s.j + 1 = s.keylen) :
      Accepted s (.key w) ((s.consumeKey w).finishKeyLoad.respond .ok 0)

theorem exec_accepted (h : statusTable s.config s.phase i = .ok) : ∃ t, exec i s = .next t ∧ Accepted s i t := by
  obtain ⟨hgen, hkey, hwf⟩ := statusTable_eq_ok_iff.mp h
  cases i with
  | ldmat1 imm => exact ⟨_, exec_ldmat1_of_fits (of_decide_eq_true hwf) s, .ldmat1 imm⟩
  | ldmat2 imm => exact ⟨_, exec_ldmat2_of_fits (of_decide_eq_true hwf) s, .ldmat2 imm⟩
  | ldtmat imm => exact ⟨_, rfl, .ldtmat imm⟩
  | seed imm => exact ⟨_, rfl, .seed imm⟩
  | seeda imm =>
    have hn := of_decide_eq_true hwf
    exact ⟨_, exec_seeda_of_legal hn, .seeda imm hn⟩
  | key w =>
    obtain ⟨hp, -⟩ | ⟨hp, hj, he⟩ | ⟨hp, hj, he⟩ := execKey_cases w s
    · exact absurd (hkey rfl) hp
    · exact ⟨_, he, .keyNext w hp hj⟩
    · exact ⟨_, he, .keyLast w hp hj⟩
  | step | gu64 | gd12 | gd01 | gdoo | gdoc | gd53 =>
    exact ⟨_, whenReady_of_ready (hgen rfl) _, .advance rfl (hgen rfl) _⟩
  | tu64 | td12 | td01 | tdoo | tdoc | td53 | rds0 | rds1 => exact ⟨_, whenReady_of_ready (hgen rfl) _, .read rfl _⟩
  | rdmat1 | rdmat2 | rdtmat | rdstat | rdexp => exact ⟨_, rfl, .read rfl _⟩

/-- Every command either raises the error of table R155 or is accepted. -/
theorem exec_cases (h : exec i s = .next t) :
    (statusTable s.config s.phase i ≠ .ok ∧ t = s.respond (statusTable s.config s.phase i) 0) ∨
    (statusTable s.config s.phase i = .ok ∧ Accepted s i t) := by
  by_cases hst : statusTable s.config s.phase i = .ok
  · obtain ⟨u, hu, hacc⟩ := exec_accepted hst
    obtain rfl : u = t := by injection hu.symm.trans h
    exact .inr ⟨hst, hacc⟩
  · have ht := (exec_of_error hst).symm.trans h
    exact .inl ⟨hst, by injection ht with ht; exact ht.symm⟩

/-- What one step does: nothing, reset, `ERR_ILLEGAL`, or one command. -/
theorem step_cases (h : step s = .next t) :
    (s.input = [] ∧ t = s) ∨
    (∃ rest, s.input = .reset :: rest ∧ t = (s.withInput rest).assertReset) ∨
    (∃ cw rest e, s.input = .command cw :: rest ∧ decode cw = .error e ∧ t = (s.withInput rest).respond .errIllegal 0) ∨
    (∃ cw rest i, s.input = .command cw :: rest ∧ decode cw = .ok i ∧ exec i (s.withInput rest) = .next t) := by
  rcases hin : s.input with _ | ⟨cw | _, rest⟩
  · exact .inl ⟨rfl, (Host.Outcome.next.inj ((step_idle hin).symm.trans h)).symm⟩
  · cases hd : decode cw with
    | error e =>
      have ht := Host.Outcome.next.inj ((step_undecoded hin hd).symm.trans h)
      exact .inr (.inr (.inl ⟨cw, rest, e, rfl, hd, ht.symm⟩))
    | ok i => exact .inr (.inr (.inr ⟨cw, rest, i, rfl, hd, (step_command hin hd).symm.trans h⟩))
  · exact .inr (.inl ⟨rest, rfl, (Host.Outcome.next.inj ((step_reset hin).symm.trans h)).symm⟩)

end Sys2Proof.Machine
end

section
/-! PROOFS. The transition on the 127 significant bits (spec/43_transition.md R98). Each of the four shifts of the avalanche
can be undone, and bit 0 of the new `S1` tells whether the matrices were folded in; so the transition is injective and, since
it keeps the zero pair at zero, no other pair reaches it (`nextState_not_zero`). -/

namespace Sys2Proof.Machine

/-! ### The avalanche -/

/-- Every bit of `x ^ (x << k)` is the bit of `x` changed by a lower bit of `x`: the bits are recovered from the lowest up. -/
theorem xor_shiftLeft_injective {w k : Nat} (hk : 0 < k) : Function.Injective fun x : BitVec w => x ^^^ (x <<< k) := by
  intro x y hxy
  have hbit : ∀ n, x.getLsbD n = y.getLsbD n := by
    intro n
    induction n using Nat.strong_induction_on with
    | _ n ih =>
      have hn := congrArg (BitVec.getLsbD · n) hxy
      simp only [BitVec.getLsbD_xor, BitVec.getLsbD_shiftLeft] at hn
      by_cases hlow : n < k
      · simpa [hlow] using hn
      · rw [ih (n - k) (by omega)] at hn
        exact Bool.xor_left_inj.mp hn
  exact BitVec.eq_of_getLsbD_eq fun n _ => hbit n

/-- A right shift by half the width is undone by doing it again. -/
theorem xor_ushiftRight_32_injective : Function.Injective fun x : Word => x ^^^ (x >>> 32) := by
  refine Function.LeftInverse.injective (g := fun x : Word => x ^^^ (x >>> 32)) fun x => ?_
  have hout : x >>> 32 >>> 32 = 0#64 := by
    rw [← BitVec.shiftRight_add]
    exact BitVec.ushiftRight_eq_zero (by decide)
  simp only [BitVec.ushiftRight_xor_distrib, hout, BitVec.xor_assoc, BitVec.xor_zero, BitVec.xor_self]

theorem avalanche_injective : Function.Injective avalanche := by
  intro x y h
  have h1 := xor_shiftLeft_injective (by decide) h
  have h2 := xor_shiftLeft_injective (by decide) h1
  have h3 := xor_ushiftRight_32_injective h2
  exact xor_shiftLeft_injective (by decide) h3

@[simp] theorem avalanche_zero : avalanche 0 = 0 := by decide

/-! ### The two words -/

variable {s0 s1 t0 t1 : Word} {mat1 mat2 : Half}

/-- `MAT2` is folded in above bit 31, so bit 0 of the new `S1` still says whether it was. -/
theorem nextState_snd_bit0 (s0 s1 : Word) (mat1 mat2 : Half) :
    (nextState s0 s1 mat1 mat2).2.getLsbD 0 = (avalanche ((s0 &&& mask) ^^^ s1)).getLsbD 0 := by
  rw [nextState_snd]
  split <;> simp

/-- The mask splits a sum bit by bit. -/
theorem xor_and_distrib_right (a b m : Word) : (a ^^^ b) &&& m = (a &&& m) ^^^ (b &&& m) := by
  apply BitVec.eq_of_getLsbD_eq
  intro n _
  simp only [BitVec.getLsbD_and, BitVec.getLsbD_xor, Bool.and_xor_distrib_right]

/-- `S0` and `S1` from the sum `(S0 & m) ^ S1` and the bits of `S1` inside `m`: outside `m` the sum is `S1`. -/
theorem and_eq_and_eq_of_xor_eq {m : Word} (hx : (s0 &&& m) ^^^ s1 = (t0 &&& m) ^^^ t1) (hs : s1 &&& m = t1 &&& m) :
    s0 &&& m = t0 &&& m ∧ s1 = t1 := by
  have h0 : s0 &&& m = t0 &&& m := by
    have hm := congrArg (· &&& m) hx
    simp only [xor_and_distrib_right, BitVec.and_assoc, BitVec.and_self, hs] at hm
    exact (BitVec.xor_left_inj _).mp hm
  exact ⟨h0, (BitVec.xor_right_inj _).mp (h0 ▸ hx)⟩

/-- The transition is injective on the significant bits (43 R98 (c)). -/
theorem nextState_injective_of_significant
    (h0 : (nextState s0 s1 mat1 mat2).1 &&& mask = (nextState t0 t1 mat1 mat2).1 &&& mask)
    (h1 : (nextState s0 s1 mat1 mat2).2 = (nextState t0 t1 mat1 mat2).2) : s0 &&& mask = t0 &&& mask ∧ s1 = t1 := by
  have hbit := congrArg (BitVec.getLsbD · 0) h1
  simp only [nextState_snd_bit0] at hbit
  rw [nextState_snd, nextState_snd, hbit] at h1
  rw [nextState_fst, nextState_fst, hbit] at h0
  split at h0
  · rw [xor_and_distrib_right, xor_and_distrib_right, BitVec.xor_left_inj] at h0
    rw [if_pos ‹_›, if_pos ‹_›, BitVec.xor_left_inj] at h1
    exact and_eq_and_eq_of_xor_eq (avalanche_injective h1) h0
  · rw [if_neg ‹_›, if_neg ‹_›] at h1
    exact and_eq_and_eq_of_xor_eq (avalanche_injective h1) h0

@[simp] theorem nextState_zero (mat1 mat2 : Half) : nextState 0 0 mat1 mat2 = (0, 0) := by
  rw [nextState, show (0 &&& mask) ^^^ 0 = 0 by decide, avalanche_zero]
  rfl

theorem nextState_of_zero (h : s0 &&& mask = 0 ∧ s1 = 0) : nextState s0 s1 mat1 mat2 = (0, 0) := by
  obtain ⟨h0, rfl⟩ := h
  rw [nextState_congr (t0 := 0) (h0.trans (by decide)), nextState_zero]

/-- Only the degenerate pair goes to a degenerate pair (10 R24). -/
theorem nextState_not_zero (h : ¬(s0 &&& mask = 0 ∧ s1 = 0)) :
    ¬((nextState s0 s1 mat1 mat2).1 &&& mask = 0 ∧ (nextState s0 s1 mat1 mat2).2 = 0) := by
  rintro ⟨h0, h1⟩
  refine h (nextState_injective_of_significant (t0 := 0) (t1 := 0) (mat1 := mat1) (mat2 := mat2) ?_ ?_)
  · rw [h0, nextState_zero]; decide
  · rw [h1, nextState_zero]

theorem xor_signBit_and_mask (a : Word) : (a ^^^ 0x8000000000000000) &&& mask = a &&& mask := by
  rw [xor_and_distrib_right, show (0x8000000000000000 : Word) &&& mask = 0 by decide, BitVec.ofNat_eq_ofNat,
    BitVec.xor_zero]

theorem nextState_fst_bit63 (s0 s1 : Word) (mat1 mat2 : Half) :
    (nextState s0 s1 mat1 mat2).1.getLsbD 63 = s1.getLsbD 63 := by
  rw [nextState_fst]
  split <;> simp [zext64]

/-- Settles O26: bit 63 of `S0` is outside the mask, and `MAT1` is folded in below bit 32. -/
theorem transitionSignificantBits : Obligations.TransitionSignificantBits := fun s0 s1 mat1 mat2 =>
  ⟨nextState_congr (xor_signBit_and_mask s0) s1 mat1 mat2, nextState_of_zero, nextState_fst_bit63 s0 s1 mat1 mat2⟩

end Sys2Proof.Machine
end

section
/-! PROOFS. The invariant of spec/10_state.md R24, R33: each kind of command keeps it (`Accepted.inv`), and so does every
step. -/

namespace Sys2Proof.Machine

variable {s t : State} {i : Instr}

/-! ### The clauses of the invariant -/

/-- Certification never leaves a degenerate pair, the sentinel being none (41 R83, 00 R8). -/
theorem certify_not_zero {c : Config} (hc : configValid c = true) (a b : Word) :
    ¬((certify c a b).1 &&& mask = 0 ∧ (certify c a b).2 = 0) := by
  obtain ⟨hcert, -, -⟩ := (configValid_iff c).mp hc
  by_cases h : a &&& mask = 0 ∧ b = 0
  · rwa [certify_of_zero c h]
  · rwa [certify_of_not_zero c h]

/-- A legal key length is its own low half: `KEYLEN_MAX` fits 32 bits (00 R8). -/
theorem keyLength_toNat {c : Config} (hc : configValid c = true) {imm : Word} (h : imm.toNat ≤ c.keylenMax) :
    (imm.extractLsb' 0 32).toNat = imm.toNat := by
  obtain ⟨-, -, hmax⟩ := (configValid_iff c).mp hc
  rw [BitVec.extractLsb'_toNat, Nat.shiftRight_zero]
  exact Nat.mod_eq_of_lt (by omega)

/-- Counting one more key word does not wrap below the announced length (10 R33). -/
theorem toNat_add_one_of_lt {j n : Half} (h : j.toNat < n.toNat) : (j + 1).toNat = j.toNat + 1 := by
  bv_omega

/-- Within a key load, the word that ends it is the one that counts `J` up to `KEYLEN`. -/
theorem add_one_eq_keylen_iff {j n : Half} (h : j.toNat < n.toNat) : j + 1 = n ↔ ¬j.toNat + 1 < n.toNat := by
  rw [← BitVec.toNat_inj, toNat_add_one_of_lt h]
  omega

/-! ### What keeps it -/

theorem State.Inv.respond (h : s.Inv) {x : Status} {d : Word} (hd : x ≠ .ok → d = 0) : (s.respond x d).Inv := by
  obtain ⟨hc, hgen, hload, hresp⟩ := h
  refine ⟨hc, hgen, hload, fun r hr hne => ?_⟩
  rcases List.mem_append.mp hr with hr | hr
  · exact hresp r hr hne
  · obtain rfl := List.mem_singleton.mp hr
    exact hd hne

theorem State.Inv.withInput (h : s.Inv) (rest : List PortInput) : (s.withInput rest).Inv := h

/-- Without a generator and without a key load, only the hardware's parameters and the responses count. -/
theorem State.Inv.of_unseeded (h : s.Inv) (hp : t.phase = .unseeded) (hc : t.config = s.config)
    (hr : t.responses = s.responses) : t.Inv := by
  obtain ⟨hconf, -, -, hresp⟩ := h
  exact ⟨hc ▸ hconf, by simp [hp], by simp [hp], hr ▸ hresp⟩

/-- The end of a seeding: a certified pair in `READY`, whatever the key load was. -/
theorem State.Inv.of_certified (h : s.Inv) {a b : Word} (hp : t.phase = .ready)
    (hpair : (t.s0, t.s1) = certify s.config a b) (hc : t.config = s.config) (hr : t.responses = s.responses) : t.Inv := by
  obtain ⟨hconf, -, -, hresp⟩ := h
  have hnz := certify_not_zero hconf a b
  rw [← hpair] at hnz
  exact ⟨hc ▸ hconf, fun _ => hnz, by simp [hp], hr ▸ hresp⟩

theorem State.Inv.advance (h : s.Inv) (hp : s.phase = .ready) : s.advance.Inv := by
  obtain ⟨hc, hgen, -, hresp⟩ := h
  exact ⟨hc, fun _ => nextState_not_zero (hgen hp), by simp [hp], hresp⟩

theorem State.Inv.beginKeyLoad (h : s.Inv) {imm : Word} (hn : 1 ≤ imm.toNat ∧ imm.toNat ≤ s.config.keylenMax) :
    (s.beginKeyLoad (imm.extractLsb' 0 32)).Inv := by
  obtain ⟨hc, -, -, hresp⟩ := h
  have hlen := keyLength_toNat hc hn.2
  refine ⟨hc, by simp, fun _ => ⟨?_, ?_, by simp⟩, hresp⟩
  · rw [State.beginKeyLoad_keylen, hlen]
    exact hn.1
  · rw [State.beginKeyLoad_keylen, hlen]
    exact hn.2

theorem State.Inv.consumeKey (h : s.Inv) (w : Word) (hp : s.phase = .keyload) (hj : s.j + 1 ≠ s.keylen) :
    (s.consumeKey w).Inv := by
  obtain ⟨hc, -, hload, hresp⟩ := h
  obtain ⟨hlt, hmax, hi⟩ := hload hp
  refine ⟨hc, by simp [hp], fun _ => ⟨?_, hmax, ?_⟩, hresp⟩
  · rw [State.consumeKey_j, State.consumeKey_keylen, toNat_add_one_of_lt hlt]
    exact not_not.mp (mt (add_one_eq_keylen_iff hlt).mpr hj)
  · rw [State.consumeKey_i, State.consumeKey_j, keyStep_index, hi, BitVec.setWidth_add _ _ (by decide), BitVec.add_assoc]
    rfl

/-- The last key word ends the load in the collapsed and certified pair (42 R92). -/
theorem State.Inv.finishKeyLoad (h : s.Inv) (w : Word) : (s.consumeKey w).finishKeyLoad.Inv :=
  h.of_certified rfl rfl rfl rfl

/-! ### Commands and steps -/

theorem Accepted.inv (ha : Accepted s i t) (h : s.Inv) : t.Inv := by
  have hok : ∀ {u : State} {d : Word}, u.Inv → (u.respond .ok d).Inv := fun hu => hu.respond (absurd rfl)
  cases ha with
  | read _ d => exact hok h
  | advance _ hp d => exact hok (h.advance hp)
  | ldmat1 imm => exact hok (h.of_unseeded rfl rfl rfl)
  | ldmat2 imm => exact hok (h.of_unseeded rfl rfl rfl)
  | ldtmat imm => exact hok (h.of_unseeded rfl rfl rfl)
  | seed imm => exact hok (h.of_certified rfl rfl rfl rfl)
  | seeda imm hn => exact hok (h.beginKeyLoad hn)
  | keyNext w hp hj => exact hok (h.consumeKey w hp hj)
  | keyLast w hp hj => exact hok (h.finishKeyLoad w)

theorem exec_inv (h : s.Inv) (he : exec i s = .next t) : t.Inv := by
  obtain ⟨-, rfl⟩ | ⟨-, ha⟩ := exec_cases he
  · exact h.respond fun _ => rfl
  · exact ha.inv h

/-- Settles O44: an idle step and reset by the clauses of the invariant, `ERR_ILLEGAL` by its data 0, a command by
`exec_inv`. -/
theorem stepKeepsInvariant : Obligations.StepKeepsInvariant := by
  intro s t h hstep
  obtain ⟨-, rfl⟩ | ⟨rest, -, rfl⟩ | ⟨cw, rest, e, -, -, rfl⟩ | ⟨cw, rest, i, -, -, he⟩ := step_cases hstep
  · exact h
  · exact h.of_unseeded rfl rfl rfl
  · exact (h.withInput rest).respond fun _ => rfl
  · exact exec_inv (h.withInput rest) he

/-- Settles O45: the recommended parameters are legal (log entry 5), and the reset state has neither a generator, a key load
nor a response. -/
theorem resetMeetsInvariant : Obligations.ResetMeetsInvariant := by
  refine ⟨?_, ?_, ?_, ?_⟩
  · decide
  · intro h; cases h
  · intro h; cases h
  · intro r hr; cases hr

end Sys2Proof.Machine
end

section
/-! PROOFS. The parameters, the generator and the phase after a command (spec/10_state.md R35, R37, R38;
spec/43_transition.md R99): each by the kinds of command (`exec_cases`, `Accepted`). -/

namespace Sys2Proof.Machine

variable {s t : State} {i : Instr}

/-! ### Command classes -/

theorem advances_of_readsOnly (hi : readsOnly i = true) : advances i = false := by
  cases i with
  | tu64 | td12 | td01 | tdoo | tdoc | td53 | rds0 | rds1 | rdmat1 | rdmat2 | rdtmat | rdstat | rdexp => rfl
  | _ => cases hi

/-- The transition needs the generator and nothing else (60 R155). -/
theorem statusTable_of_advances {c : Config} (hi : advances i = true) : statusTable c .ready i = .ok := by
  cases i with
  | step | gu64 | gd12 | gd01 | gdoo | gdoc | gd53 => rfl
  | _ => cases hi

theorem phaseTable_of_readsOnly (hi : readsOnly i = true) (last : Bool) (p : Phase) : phaseTable last p i = p := by
  cases i with
  | tu64 | td12 | td01 | tdoo | tdoc | td53 | rds0 | rds1 | rdmat1 | rdmat2 | rdtmat | rdstat | rdexp => rfl
  | _ => cases hi

theorem phaseTable_of_advances (hi : advances i = true) (last : Bool) (p : Phase) : phaseTable last p i = p := by
  cases i with
  | step | gu64 | gd12 | gd01 | gdoo | gdoc | gd53 => rfl
  | _ => cases hi

/-! ### Parameters -/

theorem exec_config (h : exec i s = .next t) : t.config = s.config := by
  obtain ⟨-, rfl⟩ | ⟨-, ha⟩ := exec_cases h
  · rfl
  · cases ha <;> rfl

/-- Beside an accepted load, which leaves the core without a generator, no command touches a parameter (10 R37). -/
theorem exec_parameters (h : exec i s = .next t) :
    (t.mat1 = s.mat1 ∧ t.mat2 = s.mat2 ∧ t.tmat = s.tmat) ∨
    (t.phase = .unseeded ∧ ∃ w,
      (i = .ldmat1 w ∧ t.mat2 = s.mat2 ∧ t.tmat = s.tmat) ∨
      (i = .ldmat2 w ∧ t.mat1 = s.mat1 ∧ t.tmat = s.tmat) ∨
      (i = .ldtmat w ∧ t.mat1 = s.mat1 ∧ t.mat2 = s.mat2)) := by
  obtain ⟨-, rfl⟩ | ⟨-, ha⟩ := exec_cases h
  · exact .inl ⟨rfl, rfl, rfl⟩
  · cases ha with
    | ldmat1 imm => exact .inr ⟨rfl, imm, .inl ⟨rfl, rfl, rfl⟩⟩
    | ldmat2 imm => exact .inr ⟨rfl, imm, .inr (.inl ⟨rfl, rfl, rfl⟩)⟩
    | ldtmat imm => exact .inr ⟨rfl, imm, .inr (.inr ⟨rfl, rfl, rfl⟩)⟩
    | read | advance | seed | seeda | keyNext | keyLast => exact .inl ⟨rfl, rfl, rfl⟩

/-- Settles O15, by `exec_parameters`: a command that changes a parameter is its own load and leaves the core `UNSEEDED`. -/
theorem parametersFixedWhileGeneratorLives : Obligations.ParametersFixedWhileGeneratorLives := by
  intro i s t h
  refine ⟨exec_config h, ?_⟩
  obtain ⟨h1, h2, h3⟩ | ⟨hp, w, ⟨hi, h2, h3⟩ | ⟨hi, h1, h3⟩ | ⟨hi, h1, h2⟩⟩ := exec_parameters h
  · exact ⟨fun _ => h1, fun _ => h2, fun _ => h3, fun _ => ⟨h1, h2, h3⟩⟩
  · exact ⟨fun hne => absurd hi (hne w), fun _ => h2, fun _ => h3, by simp [hp]⟩
  · exact ⟨fun _ => h1, fun hne => absurd hi (hne w), fun _ => h3, by simp [hp]⟩
  · exact ⟨fun _ => h1, fun _ => h2, fun hne => absurd hi (hne w), by simp [hp]⟩

/-! ### The generator -/

/-- Settles O28: of the accepted commands only those that advance move the pair of a generator that stays, and in `READY`
none of them is refused. -/
theorem generatorMovesOnlyByTransition : Obligations.GeneratorMovesOnlyByTransition := by
  intro i s t hp hseed h hpt
  obtain ⟨hst, rfl⟩ | ⟨-, ha⟩ := exec_cases h
  · have hi : ¬advances i = true := fun hi => hst (hp ▸ statusTable_of_advances hi)
    rw [if_neg hi]
    rfl
  · cases ha with
    | read hi d =>
      rw [advances_of_readsOnly hi]
      rfl
    | advance hi _ d =>
      rw [if_pos hi]
      rfl
    | seed imm => exact absurd rfl (hseed imm)
    | ldmat1 | ldmat2 | ldtmat | seeda => cases hpt
    | keyNext _ hk | keyLast _ hk => cases hp.symm.trans hk

/-! ### The phase -/

theorem Accepted.phase (ha : Accepted s i t) (hj : s.phase = .keyload → s.j.toNat < s.keylen.toNat) :
    t.phase = phaseTable (decide (¬s.j.toNat + 1 < s.keylen.toNat)) s.phase i := by
  cases ha with
  | read hi d => exact (phaseTable_of_readsOnly hi _ _).symm
  | advance hi _ d => exact (phaseTable_of_advances hi _ _).symm
  | ldmat1 | ldmat2 | ldtmat | seed | seeda => rfl
  | keyNext w hp hne =>
    rw [decide_eq_false (mt (add_one_eq_keylen_iff (hj hp)).mpr hne)]
    exact hp
  | keyLast w hp heq =>
    rw [decide_eq_true ((add_one_eq_keylen_iff (hj hp)).mp heq)]
    rfl

/-- Settles O43: an error keeps the phase, and an accepted command ends in the phase of its row (`Accepted.phase`). -/
theorem phaseFollowsPhaseTable : Obligations.PhaseFollowsPhaseTable := by
  intro i s hj
  by_cases hst : statusTable s.config s.phase i = .ok
  · obtain ⟨t, ht, ha⟩ := exec_accepted hst
    exact ⟨t, ht, (ha.phase hj).trans (if_pos hst).symm⟩
  · exact ⟨_, exec_of_error hst, (if_neg hst).symm⟩

/-! ### Reset -/

/-- Settles O10: the values of table R35 as `State.reset` writes them. -/
theorem resetStateValues : Obligations.ResetStateValues := ⟨rfl, rfl, rfl, rfl, rfl, rfl⟩

end Sys2Proof.Machine
end

section
/-! PROOFS. What holds no value cannot be observed (spec/10_state.md R35, R36). Two states that agree on what holds a value
(`Agree`) are taken by every operation of the model to states that agree again, and every command reads them alike. -/

namespace Sys2Proof.Machine

variable {s t s' t' : State}

/-! ### Agreement on what holds a value -/

/-- `s` and `t` agree on every element that holds a value in their phase (10 table R36). -/
structure Agree (s t : State) : Prop where
  mat1 : s.mat1 = t.mat1
  mat2 : s.mat2 = t.mat2
  tmat : s.tmat = t.tmat
  phase : s.phase = t.phase
  config : s.config = t.config
  generator : s.phase = .ready → s.s0 = t.s0 ∧ s.s1 = t.s1
  keyLoad : s.phase = .keyload → s.st = t.st ∧ s.i = t.i ∧ s.j = t.j ∧ s.keylen = t.keylen

theorem view_eq_iff_agree : s.view = t.view ↔ Agree s t := by
  constructor
  · intro h
    have hphase : s.phase = t.phase := congrArg View.phase h
    have hgen : (if s.phase = .ready then some (s.s0, s.s1) else none) =
        if t.phase = .ready then some (t.s0, t.s1) else none := congrArg View.generator h
    have hload : (if s.phase = .keyload then some (s.st, s.i, s.j, s.keylen) else none) =
        if t.phase = .keyload then some (t.st, t.i, t.j, t.keylen) else none := congrArg View.keyLoad h
    refine ⟨congrArg View.mat1 h, congrArg View.mat2 h, congrArg View.tmat h, hphase, congrArg View.config h,
      fun hp => ?_, fun hp => ?_⟩
    · simpa [← hphase, hp] using hgen
    · simpa [← hphase, hp] using hload
  · rintro ⟨h1, h2, h3, hphase, hconf, hgen, hload⟩
    rw [State.view, State.view, View.mk.injEq]
    refine ⟨h1, h2, h3, hphase, ?_, ?_, hconf⟩
    · rw [← hphase]
      exact ite_congr rfl (fun hp => by rw [(hgen hp).1, (hgen hp).2]) fun _ => rfl
    · rw [← hphase]
      refine ite_congr rfl (fun hp => ?_) fun _ => rfl
      obtain ⟨hst, hi, hj, hn⟩ := hload hp
      rw [hst, hi, hj, hn]

namespace Agree

theorem respond (h : Agree s t) (x y : Status) (d e : Word) : Agree (s.respond x d) (t.respond y e) :=
  ⟨h.mat1, h.mat2, h.tmat, h.phase, h.config, h.generator, h.keyLoad⟩

theorem withInput (h : Agree s t) (l m : List PortInput) : Agree (s.withInput l) (t.withInput m) :=
  ⟨h.mat1, h.mat2, h.tmat, h.phase, h.config, h.generator, h.keyLoad⟩

theorem writeMat1 (h : Agree s t) (v : Half) : Agree (s.writeMat1 v) (t.writeMat1 v) :=
  ⟨rfl, h.mat2, h.tmat, h.phase, h.config, h.generator, h.keyLoad⟩

theorem writeMat2 (h : Agree s t) (v : Half) : Agree (s.writeMat2 v) (t.writeMat2 v) :=
  ⟨h.mat1, rfl, h.tmat, h.phase, h.config, h.generator, h.keyLoad⟩

theorem writeTmat (h : Agree s t) (v : Word) : Agree (s.writeTmat v) (t.writeTmat v) :=
  ⟨h.mat1, h.mat2, rfl, h.phase, h.config, h.generator, h.keyLoad⟩

theorem endInstance (h : Agree s t) : Agree s.endInstance t.endInstance :=
  ⟨h.mat1, h.mat2, h.tmat, rfl, h.config, nofun, nofun⟩

theorem becomeReady (h : Agree s t) {p q : Word × Word} (hpq : p = q) : Agree (s.becomeReady p) (t.becomeReady q) :=
  ⟨h.mat1, h.mat2, h.tmat, rfl, h.config, fun _ => by simp [hpq], nofun⟩

theorem advance (h : Agree s t) (hp : s.phase = .ready) : Agree s.advance t.advance := by
  obtain ⟨h0, h1⟩ := h.generator hp
  exact ⟨h.mat1, h.mat2, h.tmat, h.phase, h.config, fun _ => by simp [h0, h1, h.mat1, h.mat2], by simp [hp]⟩

theorem beginKeyLoad (h : Agree s t) (n : Half) : Agree (s.beginKeyLoad n) (t.beginKeyLoad n) :=
  ⟨h.mat1, h.mat2, h.tmat, by simp, h.config, nofun, fun _ => by simp [h.mat1, h.mat2, h.tmat, h.config]⟩

theorem consumeKey (h : Agree s t) (w : Word) (hp : s.phase = .keyload) : Agree (s.consumeKey w) (t.consumeKey w) := by
  obtain ⟨hst, hi, hj, hn⟩ := h.keyLoad hp
  exact ⟨h.mat1, h.mat2, h.tmat, h.phase, h.config, by simp [hp], fun _ => by simp [hst, hi, hj, hn, h.config]⟩

theorem finishKeyLoad (h : Agree s t) (hp : s.phase = .keyload) : Agree s.finishKeyLoad t.finishKeyLoad := by
  obtain ⟨hst, hi, -, hn⟩ := h.keyLoad hp
  exact h.becomeReady (by rw [hst, hi, hn, h.config])

theorem assertReset (h : Agree s t) : Agree s.assertReset t.assertReset := ⟨rfl, rfl, rfl, rfl, h.config, nofun, nofun⟩

end Agree

/-! ### Commands answered alike -/

/-- The outcomes `x` at `s` and `y` at `t` are next states that agree on what holds a value; both take nothing of the input and
deliver the same one response. -/
def AnsweredAlike (s t : State) (x y : Result) : Prop :=
  ∃ s' t' r, x = .next s' ∧ y = .next t' ∧ Agree s' t' ∧ s'.input = s.input ∧ t'.input = t.input ∧
    s'.responses = s.responses ++ [r] ∧ t'.responses = t.responses ++ [r]

theorem raise_alike (h : Agree s t) (x : Status) : AnsweredAlike s t (raise s x) (raise t x) :=
  ⟨_, _, _, rfl, rfl, h.respond x x 0 0, rfl, rfl, rfl, rfl⟩

/-- The same answer from states that agree and have left the ports as they were. -/
theorem answer_alike (h : Agree s' t') {d e : Word} (hd : d = e)
    (hs : s'.input = s.input ∧ s'.responses = s.responses := by exact ⟨rfl, rfl⟩)
    (ht : t'.input = t.input ∧ t'.responses = t.responses := by exact ⟨rfl, rfl⟩) :
    AnsweredAlike s t (answer s' d) (answer t' e) := by
  subst hd
  exact ⟨_, _, ⟨.ok, d⟩, rfl, rfl, h.respond .ok .ok d d, hs.1, ht.1, by simp [hs.2], by simp [ht.2]⟩

theorem whenReady_alike (h : Agree s t) {x y : Result} (hxy : s.phase = .ready → AnsweredAlike s t x y) :
    AnsweredAlike s t (whenReady s x) (whenReady t y) := by
  by_cases hp : s.phase = .ready
  · rw [whenReady_of_ready hp, whenReady_of_ready (h.phase ▸ hp)]
    exact hxy hp
  · rw [whenReady_of_not_ready hp, whenReady_of_not_ready (h.phase ▸ hp)]
    exact raise_alike h _

theorem whenKeyload_alike (h : Agree s t) {x y : Result} (hxy : s.phase = .keyload → AnsweredAlike s t x y) :
    AnsweredAlike s t (whenKeyload s x) (whenKeyload t y) := by
  by_cases hp : s.phase = .keyload
  · rw [whenKeyload_of_keyload hp, whenKeyload_of_keyload (h.phase ▸ hp)]
    exact hxy hp
  · rw [whenKeyload_of_not_keyload hp, whenKeyload_of_not_keyload (h.phase ▸ hp)]
    exact raise_alike h _

theorem temperRead_alike (h : Agree s t) (f : Word → Word → Word → Word) :
    AnsweredAlike s t (temperRead f s) (temperRead f t) :=
  whenReady_alike h fun hp => by
    obtain ⟨h0, h1⟩ := h.generator hp
    exact answer_alike h (by rw [h0, h1, h.tmat])

theorem generate_alike (h : Agree s t) (f : Word → Word → Word → Word) :
    AnsweredAlike s t (generate f s) (generate f t) :=
  whenReady_alike h fun hp => by
    obtain ⟨h0, h1⟩ := (h.advance hp).generator hp
    exact answer_alike (h.advance hp) (by rw [h0, h1, (h.advance hp).tmat])

theorem execKey_alike (h : Agree s t) (w : Word) : AnsweredAlike s t (execKey w s) (execKey w t) :=
  whenKeyload_alike h fun hp => by
    obtain ⟨-, -, hj, hn⟩ := h.keyLoad hp
    have hused := h.consumeKey w hp
    rw [← hj, ← hn]
    split
    · exact answer_alike (hused.finishKeyLoad hp) rfl
    · exact answer_alike hused rfl

/-- Every command reads only what holds a value: the generator behind the phase check of `whenReady`, the key load behind that
of `whenKeyload`, and the parameters in any phase. -/
theorem exec_alike (h : Agree s t) (i : Instr) : AnsweredAlike s t (exec i s) (exec i t) := by
  cases i with
  | ldmat1 imm =>
    by_cases hw : imm.toNat < 2 ^ 32
    · rw [exec_ldmat1_of_fits hw, exec_ldmat1_of_fits hw]
      exact answer_alike (h.writeMat1 _).endInstance rfl
    · rw [exec_ldmat1_of_wide hw, exec_ldmat1_of_wide hw]
      exact raise_alike h _
  | ldmat2 imm =>
    by_cases hw : imm.toNat < 2 ^ 32
    · rw [exec_ldmat2_of_fits hw, exec_ldmat2_of_fits hw]
      exact answer_alike (h.writeMat2 _).endInstance rfl
    · rw [exec_ldmat2_of_wide hw, exec_ldmat2_of_wide hw]
      exact raise_alike h _
  | ldtmat imm => exact answer_alike (h.writeTmat imm).endInstance rfl
  | seed imm =>
    exact answer_alike (h.becomeReady (by rw [h.config, h.mat1, h.mat2, h.tmat])) rfl
  | seeda imm =>
    by_cases hn : 1 ≤ imm.toNat ∧ imm.toNat ≤ s.config.keylenMax
    · rw [exec_seeda_of_legal hn, exec_seeda_of_legal (h.config ▸ hn)]
      exact answer_alike (h.beginKeyLoad _) rfl
    · rw [exec_seeda_of_illegal hn, exec_seeda_of_illegal (h.config ▸ hn)]
      exact raise_alike h _
  | key w => exact execKey_alike h w
  | step => exact whenReady_alike h fun hp => answer_alike (h.advance hp) rfl
  | tu64 | td12 | td01 | tdoo | tdoc | td53 => exact temperRead_alike h _
  | gu64 | gd12 | gd01 | gdoo | gdoc | gd53 => exact generate_alike h _
  | rds0 => exact whenReady_alike h fun hp => answer_alike h (h.generator hp).1
  | rds1 => exact whenReady_alike h fun hp => answer_alike h (h.generator hp).2
  | rdmat1 => exact answer_alike h (congrArg zext64 h.mat1)
  | rdmat2 => exact answer_alike h (congrArg zext64 h.mat2)
  | rdtmat => exact answer_alike h h.tmat
  | rdstat => exact answer_alike h (congrArg statWord h.phase)
  | rdexp => exact answer_alike h rfl

/-- Settles O46, by `exec_alike` for a command; an idle step, reset and `ERR_ILLEGAL` look at no element at all. -/
theorem valuesNotHeldAreUnobservable : Obligations.ValuesNotHeldAreUnobservable := by
  intro s t hview hin
  have h := view_eq_iff_agree.mp hview
  simp only [view_eq_iff_agree]
  rcases hs : s.input with _ | ⟨cw | _, rest⟩
  · exact ⟨s, t, [], step_idle hs, step_idle (hin ▸ hs), h, by rw [hin], by simp, by simp⟩
  · have ht : t.input = .command cw :: rest := hin ▸ hs
    have hrest := h.withInput rest rest
    obtain ⟨s', t', r, hx, hy, hag, hsin, htin, hsr, htr⟩ :
        AnsweredAlike (s.withInput rest) (t.withInput rest) (step s) (step t) := by
      cases hd : decode cw with
      | error e =>
        rw [step_undecoded hs hd, step_undecoded ht hd]
        exact raise_alike hrest _
      | ok i =>
        rw [step_command hs hd, step_command ht hd]
        exact exec_alike hrest i
    exact ⟨s', t', [r], hx, hy, hag, hsin.trans htin.symm, hsr, htr⟩
  · exact ⟨_, _, [], step_reset hs, step_reset (hin ▸ hs), (h.withInput rest rest).assertReset, rfl, by simp, by simp⟩

end Sys2Proof.Machine
end

section
/-! PROOFS. What a command leaves alone and what repeating it does (spec/20_memory.md R46, R47, R50): a read-only command only
answers (`exec_of_readsOnly`) and repeated it answers alike (`exec_alike`); a parameter load or a seeding computes what it
writes from elements that it leaves as they are or writes again with the same value. -/

namespace Sys2Proof.Machine

variable {s : State} {i : Instr}

/-! ### What holds a value after an operation -/

@[simp] theorem State.respond_view (s : State) (x : Status) (d : Word) : (s.respond x d).view = s.view := rfl

/-- After a parameter load only the parameters hold a value (40 R75). -/
@[simp] theorem State.endInstance_view (s : State) :
    s.endInstance.view = ⟨s.mat1, s.mat2, s.tmat, .unseeded, none, none, s.config⟩ := rfl

/-- After a seeding the parameters and the seeded pair hold a value (41 R80). -/
@[simp] theorem State.becomeReady_view (s : State) (p : Word × Word) :
    (s.becomeReady p).view = ⟨s.mat1, s.mat2, s.tmat, .ready, some p, none, s.config⟩ := rfl

/-! ### Read-only commands -/

theorem exec_of_readsOnly (hi : readsOnly i = true) (s : State) : ∃ x d, exec i s = .next (s.respond x d) := by
  by_cases hst : statusTable s.config s.phase i = .ok
  · obtain ⟨t, ht, ha⟩ := exec_accepted hst
    cases ha with
    | read _ d => exact ⟨_, d, ht⟩
    | advance hadv => cases (advances_of_readsOnly hi).symm.trans hadv
    | ldmat1 | ldmat2 | ldtmat | seed | seeda | keyNext | keyLast => cases hi
  · exact ⟨_, _, exec_of_error hst⟩

/-- The response to a read-only command depends only on what holds a value, so an earlier response does not change it. -/
theorem exec_respond_of_readsOnly (hi : readsOnly i = true) {x y : Status} {d e : Word}
    (h : exec i s = .next (s.respond x d)) : exec i (s.respond y e) = .next ((s.respond y e).respond x d) := by
  obtain ⟨x', d', h'⟩ := exec_of_readsOnly hi (s.respond y e)
  obtain ⟨t, u, r, ht, hu, -, -, -, htr, hur⟩ := exec_alike (view_eq_iff_agree.mp (s.respond_view y e).symm) i
  obtain rfl := Host.Outcome.next.inj (h.symm.trans ht)
  obtain rfl := Host.Outcome.next.inj (h'.symm.trans hu)
  have hfirst : ⟨x, d⟩ = r := List.singleton_inj.mp (List.append_cancel_left htr)
  have hsecond : ⟨x', d'⟩ = r := List.singleton_inj.mp (List.append_cancel_left hur)
  obtain ⟨rfl, rfl⟩ := Response.mk.inj (hsecond.trans hfirst.symm)
  exact h'

/-- Settles O39: a read-only command only answers (`exec_of_readsOnly`), and answers the same again
(`exec_respond_of_readsOnly`). -/
theorem readsChangeNothing : Obligations.ReadsChangeNothing := by
  intro i s hi
  obtain ⟨x, d, h⟩ := exec_of_readsOnly hi s
  exact ⟨_, _, ⟨x, d⟩, h, rfl, rfl, exec_respond_of_readsOnly hi h, rfl, rfl⟩

/-! ### Parameter loads and `SEED` -/

/-- Settles O23: an accepted load writes the same parameter again, `SEED` computes the same pair again from the parameters it
leaves as they are, and a rejected operand changes nothing either time. -/
theorem loadsAndSeedIdempotent : Obligations.LoadsAndSeedIdempotent := by
  rintro i w (rfl | rfl | rfl | rfl) s
  case inl =>
    by_cases hw : w.toNat < 2 ^ 32
    · exact ⟨_, _, exec_ldmat1_of_fits hw s, exec_ldmat1_of_fits hw _, by simp⟩
    · exact ⟨_, _, exec_ldmat1_of_wide hw s, exec_ldmat1_of_wide hw _, by simp⟩
  case inr.inl =>
    by_cases hw : w.toNat < 2 ^ 32
    · exact ⟨_, _, exec_ldmat2_of_fits hw s, exec_ldmat2_of_fits hw _, by simp⟩
    · exact ⟨_, _, exec_ldmat2_of_wide hw s, exec_ldmat2_of_wide hw _, by simp⟩
  case inr.inr.inl =>
    exact ⟨(s.writeTmat w).endInstance.respond .ok 0, _, rfl, rfl, by simp⟩
  case inr.inr.inr =>
    exact ⟨(s.becomeReady (seedScalar s.config s.mat1 s.mat2 s.tmat w)).respond .ok 0, _, rfl, rfl, by simp⟩

/-! ### A step -/

/-- Settles O7, by `step_command`. -/
theorem stepRunsDecodedCommand : Obligations.StepRunsDecodedCommand := fun _ _ _ _ hin hd => step_command hin hd

end Sys2Proof.Machine
end

section
/-! PROOFS. The command word and the response word (spec/30_encoding.md R56, R57, R60, R65, R67). The decoder is determined by
one equivalence, `decode_eq_ok_iff`: a word is a command exactly when its opcode is the command's and, beside format N, its
operand field is the command's operand; every opcode outside table R60 is in one of the ranges of R65. -/

namespace Sys2Proof.Machine

open Sys2Proof.Laws

variable {cw : CommandWord} {i : Instr}

/-! ### Decoding a word that is a command -/

theorem fields_of_decode (h : decode cw = .ok i) :
    i.opcode = opcodeOf cw ∧ (i.format ≠ .n → i.operand = operandOf cw) := by
  unfold decode at h
  split at h
  case h_27 => cases h
  case h_1 hop | h_2 hop | h_3 hop | h_4 hop | h_5 hop | h_6 hop =>
    cases h
    exact ⟨hop.symm, fun _ => rfl⟩
  all_goals
    cases h
    exact ⟨Eq.symm ‹opcodeOf cw = _›, fun hf => absurd rfl hf⟩

theorem decode_of_fields (hop : i.opcode = opcodeOf cw) (himm : i.format ≠ .n → i.operand = operandOf cw) :
    decode cw = .ok i := by
  unfold decode
  rw [← hop]
  cases i with
  | ldmat1 | ldmat2 | ldtmat | seed | seeda | key =>
    rw [← himm (by simp [Instr.format])]
    rfl
  | _ => rfl

/-- A word decodes to a command exactly when it has the command's opcode and, beside format N, its operand (30 R56, R60). -/
theorem decode_eq_ok_iff :
    decode cw = .ok i ↔ i.opcode = opcodeOf cw ∧ (i.format ≠ .n → i.operand = operandOf cw) :=
  ⟨fields_of_decode, fun ⟨hop, himm⟩ => decode_of_fields hop himm⟩

/-- Settles O1: an encoded command has its own opcode and its own operand (`encode_fields`). -/
theorem decodeEncodeRoundTrip : Obligations.DecodeEncodeRoundTrip := by
  intro i
  obtain ⟨hop, himm⟩ := encode_fields i
  exact decode_eq_ok_iff.mpr ⟨hop.symm, fun _ => himm.symm⟩

theorem operand_of_format_n (hf : i.format = .n) : i.operand = 0 := by
  cases i with
  | ldmat1 | ldmat2 | ldtmat | seed | seeda | key => cases hf
  | _ => rfl

/-- Settles O2: a word is its two fields (`commandWord_fields`), and the decoder keeps both beside format N. -/
theorem encodeDecodeRoundTrip : Obligations.EncodeDecodeRoundTrip := by
  intro cw i h
  obtain ⟨hop, himm⟩ := decode_eq_ok_iff.mp h
  obtain ⟨henc_op, henc_imm⟩ := encode_fields i
  refine ⟨henc_op.trans hop, fun hf => ?_, fun hf => henc_imm.trans (operand_of_format_n hf)⟩
  calc encode i = commandWord (opcodeOf cw) (operandOf cw) := by rw [encode, hop, himm hf]
    _ = cw := commandWord_fields cw

/-! ### Reserved opcodes -/

theorem opcode_not_reserved (i : Instr) : ¬reservedOpcode i.opcode := by
  unfold reservedOpcode
  cases i <;> simp [Instr.opcode]

/-- The ranges of R65 leave nothing out: every other opcode is in table R60, here with any operand field. -/
theorem reservedOpcode_or_mem_table (op : BitVec 8) (imm : Word) :
    reservedOpcode op ∨ op ∈ (allCommands imm).map Instr.opcode := by
  have table : ∀ op : BitVec 8, reservedOpcode op ∨ op ∈ (allCommands 0).map Instr.opcode := by
    unfold reservedOpcode
    decide
  exact table op

theorem operand_of_mem_allCommands (imm : Word) : ∀ i ∈ allCommands imm, i.format ≠ .n → i.operand = imm := by
  simp [allCommands, Instr.format, Instr.operand]

theorem decode_of_not_reserved (h : ¬reservedOpcode (opcodeOf cw)) : ∃ i, decode cw = .ok i := by
  have hmem := (reservedOpcode_or_mem_table (opcodeOf cw) (operandOf cw)).resolve_left h
  obtain ⟨i, hi, hop⟩ := List.mem_map.mp hmem
  exact ⟨i, decode_eq_ok_iff.mpr ⟨hop, operand_of_mem_allCommands _ i hi⟩⟩

/-- A refusal names the opcode of the word (30 R65). -/
theorem error_of_decode {e : DecodeError} (h : decode cw = .error e) : e = .reservedOpcode (opcodeOf cw) := by
  unfold decode at h
  split at h
  case h_27 =>
    cases h
    rfl
  all_goals cases h

theorem decode_of_reserved (h : reservedOpcode (opcodeOf cw)) : decode cw = .error (.reservedOpcode (opcodeOf cw)) := by
  cases hd : decode cw with
  | error e => rw [error_of_decode hd]
  | ok i => exact absurd ((decode_eq_ok_iff.mp hd).1 ▸ h) (opcode_not_reserved i)

/-- Settles O3: no command has a reserved opcode, and every other opcode is in table R60. -/
theorem decoderRefusesExactlyReserved : Obligations.DecoderRefusesExactlyReserved := by
  refine fun cw => ⟨decode_of_reserved, fun h => ?_⟩
  obtain ⟨i, hi⟩ := decode_of_not_reserved h
  exact ⟨i, hi, (decode_eq_ok_iff.mp hi).1⟩

/-- Settles O4: the decoder refuses the word (`decode_of_reserved`), and the step answers a refused word `ERR_ILLEGAL`
(`step_undecoded`). -/
theorem reservedOpcodeAnswersIllegal : Obligations.ReservedOpcodeAnswersIllegal := by
  intro op imm hop
  have hd : decode (commandWord op imm) = .error (.reservedOpcode op) := by
    simpa using decode_of_reserved (cw := commandWord op imm) (by simpa using hop)
  exact ⟨hd, fun s rest hin => step_undecoded hin hd⟩

/-! ### Fixed words and lines -/

/-- Settles O5: the seven words run through the decoder. -/
theorem sampleWordsDecode : Obligations.SampleWordsDecode := by
  unfold Obligations.SampleWordsDecode
  decide

/-- Settles O56: the three lines run through the assembler and the encoder. -/
theorem assemblerExamples : Obligations.AssemblerExamples := by
  unfold Obligations.AssemblerExamples
  decide

/-! ### The response word -/

/-- Settles O6: the response word is the status code above the data, with the codes of `statusCode`. -/
theorem responseWordLayout : Obligations.ResponseWordLayout := by
  refine fun st d => ⟨BitVec.extractLsb'_append_eq_right, BitVec.extractLsb'_append_eq_left.trans ?_⟩
  cases st <;> rfl

end Sys2Proof.Machine
end

section
/-! PROOFS. How a command word is answered (spec/30_encoding.md R55, R57, R59; spec/60_exceptions.md R157): every command adds
exactly one response (`exec_answers`), and a generate command is `STEP` and the temper read in one. -/

namespace Sys2Proof.Machine

variable {s t : State} {i : Instr}

/-! ### One response per command -/

theorem Accepted.answers (ha : Accepted s i t) : t.input = s.input ∧ ∃ d, t.responses = s.responses ++ [⟨.ok, d⟩] := by
  cases ha <;> exact ⟨rfl, _, rfl⟩

/-- A command takes nothing more of the input and adds one response, whose data is 0 beside status `OK` (30 R57). -/
theorem exec_answers (i : Instr) (s : State) :
    ∃ t, exec i s = .next t ∧ t.input = s.input ∧
      ∃ r, t.responses = s.responses ++ [r] ∧ (r.status ≠ .ok → r.data = 0) := by
  by_cases hst : statusTable s.config s.phase i = .ok
  · obtain ⟨t, ht, ha⟩ := exec_accepted hst
    obtain ⟨hin, d, hr⟩ := ha.answers
    exact ⟨t, ht, hin, ⟨.ok, d⟩, hr, fun hne => absurd rfl hne⟩
  · exact ⟨_, exec_of_error hst, rfl, _, rfl, fun _ => rfl⟩

theorem step_answers {cw : CommandWord} {rest : List PortInput} (hin : s.input = .command cw :: rest) :
    ∃ t, step s = .next t ∧ t.input = rest ∧
      ∃ r, t.responses = s.responses ++ [r] ∧ (r.status ≠ .ok → r.data = 0) := by
  cases hd : decode cw with
  | error e => exact ⟨_, step_undecoded hin hd, rfl, _, rfl, fun _ => rfl⟩
  | ok i =>
    rw [step_command hin hd]
    exact exec_answers i (s.withInput rest)

/-- Settles O11: an idle step and reset give a next state, and a command word is answered once (`step_answers`). -/
theorem everyCommandAnsweredOnce : Obligations.EveryCommandAnsweredOnce := by
  intro s
  match hin : s.input with
  | [] => exact ⟨s, step_idle hin, nofun⟩
  | .reset :: rest => exact ⟨_, step_reset hin, nofun⟩
  | .command cw :: rest =>
    obtain ⟨t, ht, htin, hr⟩ := step_answers hin
    refine ⟨t, ht, fun cw' rest' heq => ?_⟩
    obtain ⟨-, rfl⟩ := List.cons.inj heq
    exact ⟨htin, hr⟩

/-! ### A generate command -/

/-- In `READY` the three runs of R111, for any tempering function: the transition, its read, and both in one command. -/
theorem generate_eq_step_then_temperRead (hp : s.phase = .ready) (f : Word → Word → Word → Word) :
    ∃ u v r, exec .step s = .next u ∧ temperRead f u = .next v ∧ v.responses = u.responses ++ [r] ∧
      generate f s = .next { v with responses := s.responses ++ [r] } :=
  ⟨s.advance.respond .ok 0, _, _, whenReady_of_ready hp _, temperRead_of_ready (s := s.advance.respond .ok 0) hp f, rfl,
    generate_of_ready hp f⟩

/-- Settles O32: each of the six pairs shares one tempering function (`generate_eq_step_then_temperRead`). -/
theorem generateIsStepThenTemper : Obligations.GenerateIsStepThenTemper := by
  unfold Obligations.GenerateIsStepThenTemper generatePairs
  simp only [List.forall_mem_cons]
  refine ⟨?_, ?_, ?_, ?_, ?_, ?_, nofun⟩
  all_goals exact ⟨rfl, fun s hp => generate_eq_step_then_temperRead hp _⟩

end Sys2Proof.Machine
end

section
/-! PROOFS. The parameter loads (spec/40_parameters.md R75, R76, R77). What an accepted and a rejected load does is said by
`exec_ldmat1_of_fits`, `exec_ldmat1_of_wide` and their like; here the operand check is read off the high half of the operand. -/

namespace Sys2Proof.Machine

/-- A command whose operand is the operand field is encoded by its opcode above its operand (30 R56, R60). -/
theorem encodesOperand_of_fields {op : BitVec 8} {f : Word → Instr} (hop : ∀ imm, (f imm).opcode = op)
    (himm : ∀ imm, (f imm).operand = imm) : EncodesOperand op f :=
  fun imm => decode_eq_ok_iff.mpr ⟨by simp [hop], fun _ => by simp [himm]⟩

/-- Settles O12: the operand fits exactly when its high half is zero; then the instance ends with the new `MAT1`. -/
theorem loadMat1Result : Obligations.LoadMat1Result := by
  refine ⟨encodesOperand_of_fields (fun _ => rfl) (fun _ => rfl), fun imm s => ⟨fun hwide => ?_, fun hfits => ?_⟩⟩
  · exact exec_ldmat1_of_wide (mt (extractLsb'_high_eq_zero_iff imm).mpr hwide) s
  · exact ⟨_, exec_ldmat1_of_fits ((extractLsb'_high_eq_zero_iff imm).mp hfits) s, by simp⟩

/-- Settles O13: the operand fits exactly when its high half is zero; then the instance ends with the new `MAT2`. -/
theorem loadMat2Result : Obligations.LoadMat2Result := by
  refine ⟨encodesOperand_of_fields (fun _ => rfl) (fun _ => rfl), fun imm s => ⟨fun hwide => ?_, fun hfits => ?_⟩⟩
  · exact exec_ldmat2_of_wide (mt (extractLsb'_high_eq_zero_iff imm).mpr hwide) s
  · exact ⟨_, exec_ldmat2_of_fits ((extractLsb'_high_eq_zero_iff imm).mp hfits) s, by simp⟩

/-- Settles O14: every operand is legal, so the instance ends with the new `TMAT` in every phase. -/
theorem loadTmatResult : Obligations.LoadTmatResult := by
  refine ⟨encodesOperand_of_fields (fun _ => rfl) (fun _ => rfl), fun imm s => ?_⟩
  exact ⟨(s.writeTmat imm).endInstance.respond .ok 0, rfl, by simp⟩

end Sys2Proof.Machine
end

section
/-! PROOFS. Scalar seeding (spec/41_seed_scalar.md R80, R83): an iteration writes the one word its parity names, and seven of
them from step 2 give the pair that certification looks at. -/

namespace Sys2Proof.Machine

variable {k : Nat}

theorem seedIteration_of_odd (hk : k % 2 = 1) (a b : Word) : seedIteration (a, b) k = (a, b ^^^ seedTerm k a) := if_pos hk

theorem seedIteration_of_even (hk : k % 2 = 0) (a b : Word) : seedIteration (a, b) k = (a ^^^ seedTerm k b, b) :=
  if_neg (by omega)

/-- An odd iteration and the even one after it: `s[1]` from `s[0]`, then `s[0]` from the new `s[1]` (41 R80). -/
theorem foldl_seedIteration_odd_even (hk : k % 2 = 1) (a b : Word) (ks : List Nat) :
    (k :: (k + 1) :: ks).foldl seedIteration (a, b) =
      ks.foldl seedIteration (a ^^^ seedTerm (k + 1) (b ^^^ seedTerm k a), b ^^^ seedTerm k a) := by
  rw [List.foldl_cons, List.foldl_cons, seedIteration_of_odd hk, seedIteration_of_even (by omega)]

/-- Settles O16: three odd-even pairs of iterations and the seventh give the pair before certification, and the rest of the
state is as `becomeReady` leaves it. -/
theorem seedResult : Obligations.SeedResult := by
  refine ⟨encodesOperand_of_fields (fun _ => rfl) (fun _ => rfl), fun imm s => ?_⟩
  intro term a0 b0 b1 a2 b3 a4 b5 a6 b7
  have hmixed : seedMixed s.mat1 s.mat2 s.tmat imm = (a6, b7) := by
    calc seedMixed s.mat1 s.mat2 s.tmat imm
        = [3, 4, 5, 6, 7].foldl seedIteration (a2, b1) := foldl_seedIteration_odd_even rfl a0 b0 _
      _ = [5, 6, 7].foldl seedIteration (a4, b3) := foldl_seedIteration_odd_even rfl a2 b1 _
      _ = [7].foldl seedIteration (a6, b5) := foldl_seedIteration_odd_even rfl a4 b3 _
      _ = (a6, b7) := seedIteration_of_odd (k := 7) rfl a6 b5
  have hpair : seedScalar s.config s.mat1 s.mat2 s.tmat imm = certify s.config a6 b7 := by rw [seedScalar, hmixed]
  exact ⟨(s.becomeReady (seedScalar s.config s.mat1 s.mat2 s.tmat imm)).respond .ok 0, rfl, hpair, by simp⟩

/-- Settles O17: the two outcomes of certification, and `certify_not_zero` for a legal sentinel. -/
theorem certificationRemovesDegeneratePair : Obligations.CertificationRemovesDegeneratePair := fun c a b =>
  ⟨certify_of_zero c, certify_of_not_zero c, fun hc => certify_not_zero hc a b⟩

end Sys2Proof.Machine
end

section
/-! PROOFS. Array seeding (spec/42_seed_array.md). A mixing or a finalisation iteration writes three slots of the buffer, one
after the other (`SeedBuffer.get_set_three`). A streamed key load ends in the state of the whole-key algorithm, since both run
one mixing iteration per key word and then the same continuation iterations (`execAll_keys`, `foldl_wholeStep`). -/

namespace Sys2Proof.Machine

variable {s t u : State} {p : ArraySeedProfile}

/-! ### One iteration, slot by slot -/

/-- The write to slot `k + 1` does not show in slot `k + 2`, which the iteration reads next. -/
theorem SeedBuffer.get_set_next (b : SeedBuffer) (k : BitVec 2) (v : Word) :
    (b.set (k + 1) v).get (k + 2) = b.get (k + 2) := by
  simp [SeedBuffer.get_set]

/-- The buffer after the three writes of an iteration: each is read back, and slot `k + 3` is as it was. -/
theorem SeedBuffer.get_set_three (b : SeedBuffer) (k : BitVec 2) (v1 v2 v0 : Word) :
    let b' := ((b.set (k + 1) v1).set (k + 2) v2).set k v0
    b'.get (k + 1) = v1 ∧ b'.get (k + 2) = v2 ∧ b'.get (k + 3) = b.get (k + 3) ∧ b'.get k = v0 := by
  simp [SeedBuffer.get_set]

/-- `mixstep` computes its three writes from the buffer as it stood before (42 R91). -/
theorem mixStep_eq (p : ArraySeedProfile) (add : Word) (b : SeedBuffer) (k : BitVec 2) :
    let r := mix1 (b.get k ^^^ b.get (k + 1) ^^^ b.get (k + 3))
    let f := r + add
    mixStep p add (b, k) =
      (((b.set (k + 1) (b.get (k + 1) + r)).set (k + 2) (b.get (k + 2) + f)).set k (writtenBack p r f), k + 1) := by
  intro r f
  rw [mixStep, SeedBuffer.get_set_next]

/-- `finstep` computes its three writes from the buffer as it stood before (42 R92). -/
theorem finStep_eq (p : ArraySeedProfile) (b : SeedBuffer) (k : BitVec 2) :
    let r := mix2 (b.get k + b.get (k + 1) + b.get (k + 3))
    let f := r - zextIndex k
    finStep p (b, k) =
      (((b.set (k + 1) (b.get (k + 1) ^^^ r)).set (k + 2) (b.get (k + 2) ^^^ f)).set k (writtenBack p r f), k + 1) := by
  intro r f
  rw [finStep, SeedBuffer.get_set_next]

/-- Settles O20: the three writes of `mixstep`, read back slot by slot. -/
theorem mixStepSlots : Obligations.MixStepSlots := by
  intro p add b k x r f m
  obtain ⟨h1, h2, h3, h0⟩ := b.get_set_three k (b.get (k + 1) + r) (b.get (k + 2) + f) (writtenBack p r f)
  rw [show m = _ from mixStep_eq p add b k]
  exact ⟨h1, h2, h3, h0, rfl⟩

/-- Settles O21: the three writes of `finstep`, read back slot by slot. -/
theorem finStepSlots : Obligations.FinStepSlots := by
  intro p b k x r f m
  obtain ⟨h1, h2, h3, h0⟩ := b.get_set_three k (b.get (k + 1) ^^^ r) (b.get (k + 2) ^^^ f) (writtenBack p r f)
  rw [show m = _ from finStep_eq p b k]
  exact ⟨h1, h2, h3, h0, rfl⟩

/-! ### The two commands -/

/-- Settles O18: the two readings of the operand check agree (`keyLength_legal_iff`), and the priming starts from
`ST[0] = 0`, which drops out of the mix. -/
theorem seedaResult : Obligations.SeedaResult := by
  refine ⟨encodesOperand_of_fields (fun _ => rfl) (fun _ => rfl), fun imm s => ⟨fun hbad => ?_, fun hlegal => ?_⟩⟩
  · exact exec_seeda_of_illegal fun h => (keyLength_legal_iff _ imm).mpr h hbad
  · intro x r n f
    have hst : primedBuffer s.config.profile s.mat1 s.mat2 s.tmat n =
        ⟨f, s.mat1.setWidth 64 + r, s.mat2.setWidth 64 + f, s.tmat⟩ := by
      simp only [primedBuffer, BitVec.ofNat_eq_ofNat, BitVec.zero_xor]
      rfl
    exact ⟨_, exec_seeda_of_legal ((keyLength_legal_iff _ imm).mp hlegal), rfl, hst, by simp⟩

/-- A key word that is not the last is mixed in (42 R90, step 3). -/
theorem exec_key_of_not_last (hp : s.phase = .keyload) (hj : s.j + 1 ≠ s.keylen) (w : Word) :
    exec (.key w) s = .next ((s.consumeKey w).respond .ok 0) := by
  rw [exec, execKey, whenKeyload_of_keyload hp, if_neg hj, answer_eq]

/-- The last key word is mixed in and ends the load (42 R90, steps 3 to 7). -/
theorem exec_key_of_last (hp : s.phase = .keyload) (hj : s.j + 1 = s.keylen) (w : Word) :
    exec (.key w) s = .next ((s.consumeKey w).finishKeyLoad.respond .ok 0) := by
  rw [exec, execKey, whenKeyload_of_keyload hp, if_pos hj, answer_eq]

/-- Settles O19: a key word outside a key load, within one, and at its end. -/
theorem keyResult : Obligations.KeyResult := by
  refine ⟨encodesOperand_of_fields (fun _ => rfl) (fun _ => rfl), fun w s => ⟨fun hp => ?_, ?_, ?_⟩⟩
  · exact exec_of_no_keyLoad rfl hp
  · rintro ⟨hp, hj⟩
    exact exec_key_of_not_last hp hj w
  · rintro ⟨hp, hj⟩
    exact ⟨_, exec_key_of_last hp hj w, rfl, by simp⟩

/-! ### The mixing passes of the whole-key algorithm -/

/-- The mixing pass over the words of a key, in key order (42 R90, step 3). -/
def keyPass (p : ArraySeedProfile) (key : List Word) (m : SeedBuffer × BitVec 2) : SeedBuffer × BitVec 2 :=
  key.foldl (fun m w => keyStep p w m) m

theorem wholeStep_of_word {key : List Word} {j : Nat} (h : j < key.length) (m : SeedBuffer × BitVec 2) :
    wholeStep p key m j = keyStep p key[j] m := by
  simp [wholeStep, h]

theorem wholeStep_of_no_word {key : List Word} {j : Nat} (h : key.length ≤ j) (m : SeedBuffer × BitVec 2) :
    wholeStep p key m j = continueStep p m := by
  simp [wholeStep, h]

/-- While the key lasts, the whole-key loop is the mixing pass over the words it has met. -/
theorem foldl_wholeStep_take (key : List Word) (m : SeedBuffer × BitVec 2) {j : Nat} (hj : j ≤ key.length) :
    (List.range j).foldl (wholeStep p key) m = keyPass p (key.take j) m := by
  induction j with
  | zero => rfl
  | succ j ih =>
    rw [List.range_succ, List.foldl_append, ih (by omega), List.take_succ_eq_append_getElem hj, keyPass, keyPass,
      List.foldl_append, List.foldl_cons, List.foldl_nil, wholeStep_of_word hj]
    rfl

/-- Beyond the key, the whole-key loop is the continuation pass. -/
theorem foldl_wholeStep_beyond (key : List Word) (m : SeedBuffer × BitVec 2) (n : Nat) :
    ((List.range n).map (key.length + ·)).foldl (wholeStep p key) m = (continueStep p)^[n] m := by
  simp only [List.foldl_map, wholeStep_of_no_word (Nat.le_add_right _ _), List.foldl_const, List.length_range]

/-- TMT's `count` is one iteration per key word and then `max(0, 7 - n)` more (42 R87). -/
theorem wholeCount_eq (n : Nat) : wholeCount n = n + continuationCount n := by
  unfold wholeCount continuationCount
  omega

theorem foldl_wholeStep (key : List Word) (m : SeedBuffer × BitVec 2) :
    (List.range (wholeCount key.length)).foldl (wholeStep p key) m =
      (continueStep p)^[continuationCount key.length] (keyPass p key m) := by
  rw [wholeCount_eq, List.range_add, List.foldl_append, foldl_wholeStep_take key m le_rfl, List.take_length,
    foldl_wholeStep_beyond]

/-- The whole-key algorithm: priming, the mixing pass over the key, and what ends a streamed key load (42 R90, R92). -/
theorem seedArrayWhole_eq (c : Config) (mat1 mat2 : Half) (tmat : Word) (key : List Word) :
    seedArrayWhole c mat1 mat2 tmat key =
      collapse c (finishPasses c.profile key.length
        (keyPass c.profile key (primedBuffer c.profile mat1 mat2 tmat (BitVec.ofNat 32 key.length), 1))).1 := by
  rw [seedArrayWhole, foldl_wholeStep]
  rfl

/-! ### The streamed key load -/

theorem execAll_cons {i : Instr} (h : exec i s = .next u) (rest : List Instr) : execAll (i :: rest) s = execAll rest u := by
  simp [execAll, h]

/-- What `n` accepted commands that end in a seeded generator make of `s`: the pair `g` in `READY`, `n` responses `(OK, 0)`,
the parameters and the input as they were. -/
structure SeededBy (s : State) (n : Nat) (g : Word × Word) (t : State) : Prop where
  phase : t.phase = .ready
  generator : (t.s0, t.s1) = g
  mat1 : t.mat1 = s.mat1
  mat2 : t.mat2 = s.mat2
  tmat : t.tmat = s.tmat
  config : t.config = s.config
  input : t.input = s.input
  responses : t.responses = s.responses ++ List.replicate n ⟨.ok, 0⟩

/-- One accepted command more in front, when it leaves the parameters alone. -/
theorem SeededBy.of_respond {n : Nat} {g : Word × Word} (h : SeededBy (u.respond .ok 0) n g t) (hmat1 : u.mat1 = s.mat1)
    (hmat2 : u.mat2 = s.mat2) (htmat : u.tmat = s.tmat) (hconfig : u.config = s.config) (hinput : u.input = s.input)
    (hresp : u.responses = s.responses) : SeededBy s (n + 1) g t where
  phase := h.phase
  generator := h.generator
  mat1 := h.mat1.trans hmat1
  mat2 := h.mat2.trans hmat2
  tmat := h.tmat.trans htmat
  config := h.config.trans hconfig
  input := h.input.trans hinput
  responses := by simp [h.responses, hresp, List.replicate_succ]

/-- The words that are still missing end a key load: all of them are mixed in, and the last one runs the closing passes. -/
theorem execAll_keys (w : Word) (ws : List Word) (hp : s.phase = .keyload)
    (hlen : s.j.toNat + (ws.length + 1) = s.keylen.toNat) :
    ∃ t, execAll ((w :: ws).map .key) s = .next t ∧
      SeededBy s (ws.length + 1)
        (collapse s.config (finishPasses s.config.profile s.keylen.toNat (keyPass s.config.profile (w :: ws) (s.st, s.i))).1)
        t := by
  have hlt : s.j.toNat < s.keylen.toNat := by omega
  induction ws generalizing s w with
  | nil =>
    have hj : s.j + 1 = s.keylen := (add_one_eq_keylen_iff hlt).mpr (by rw [List.length_nil] at hlen; omega)
    exact ⟨_, execAll_cons (exec_key_of_last hp hj w) [], ⟨rfl, rfl, rfl, rfl, rfl, rfl, rfl, rfl⟩⟩
  | cons w' ws ih =>
    rw [List.length_cons] at hlen
    have hj : s.j + 1 ≠ s.keylen := mt (add_one_eq_keylen_iff hlt).mp (by omega)
    let u := (s.consumeKey w).respond .ok 0
    have hcount : u.j.toNat = s.j.toNat + 1 := toNat_add_one_of_lt hlt
    have hkeylen : u.keylen = s.keylen := rfl
    obtain ⟨t, ht, hseeded⟩ := ih (s := u) w' hp (by rw [hcount, hkeylen]; omega) (by rw [hcount, hkeylen]; omega)
    exact ⟨t, (execAll_cons (exec_key_of_not_last hp hj w) _).trans ht, hseeded.of_respond rfl rfl rfl rfl rfl rfl⟩

/-- A legal key length is a number that an operand and `KEYLEN` both hold (00 R8). -/
theorem toNat_ofNat_keyLength {c : Config} (hc : configValid c = true) {n w : Nat} (hn : n ≤ c.keylenMax) (hw : 32 ≤ w) :
    (BitVec.ofNat w n).toNat = n := by
  obtain ⟨-, -, hmax⟩ := (configValid_iff c).mp hc
  have hpow : 2 ^ 32 ≤ 2 ^ w := Nat.pow_le_pow_right (by decide) hw
  rw [BitVec.toNat_ofNat]
  exact Nat.mod_eq_of_lt (by omega)

/-- `SEEDA n` for a key of `n` words is accepted and announces `n` (42 R86). -/
theorem exec_seeda_ofNat (hc : configValid s.config = true) {n : Nat} (hpos : 1 ≤ n) (hmax : n ≤ s.config.keylenMax) :
    exec (.seeda (BitVec.ofNat 64 n)) s = .next ((s.beginKeyLoad (BitVec.ofNat 32 n)).respond .ok 0) := by
  have h64 : (BitVec.ofNat 64 n).toNat = n := toNat_ofNat_keyLength hc hmax (by decide)
  have hlegal : 1 ≤ (BitVec.ofNat 64 n).toNat ∧ (BitVec.ofNat 64 n).toNat ≤ s.config.keylenMax := by omega
  have hlow : (BitVec.ofNat 64 n).extractLsb' 0 32 = BitVec.ofNat 32 n := by
    apply BitVec.eq_of_toNat_eq
    rw [keyLength_toNat hc hlegal.2, h64, toNat_ofNat_keyLength hc hmax le_rfl]
  rw [exec_seeda_of_legal hlegal, hlow]

/-- Settles O22: `SEEDA n` is accepted and primes (`exec_seeda_ofNat`), the key words mix and close (`execAll_keys`), and that
is the whole-key algorithm (`seedArrayWhole_eq`). -/
theorem streamedKeyLoadEqualsWholeKey : Obligations.StreamedKeyLoadEqualsWholeKey := by
  intro s key hc hpos hmax
  obtain ⟨w, ws, rfl⟩ := List.exists_cons_of_length_pos hpos
  let u := (s.beginKeyLoad (BitVec.ofNat 32 (w :: ws).length)).respond .ok 0
  have hkeylen : u.keylen.toNat = (w :: ws).length := toNat_ofNat_keyLength hc hmax le_rfl
  obtain ⟨t, ht, hload⟩ := execAll_keys (s := u) w ws rfl (by simpa [u] using hkeylen.symm)
  obtain ⟨hp, hgen, hmat1, hmat2, htmat, hconf, hin, hresp⟩ : SeededBy s ((w :: ws).length + 1) _ t :=
    hload.of_respond rfl rfl rfl rfl rfl rfl
  have hwhole : (t.s0, t.s1) = seedArrayWhole s.config s.mat1 s.mat2 s.tmat (w :: ws) := by
    rw [hgen, seedArrayWhole_eq, hkeylen]
    rfl
  exact ⟨t, (execAll_cons (exec_seeda_ofNat hc hpos hmax) _).trans ht, hp, hwhole, hmat1, hmat2, htmat, hconf, hin, hresp⟩

end Sys2Proof.Machine
end

section
/-! PROOFS. The transition as a map and as a command (spec/43_transition.md R95, R96, R98). Each round of the avalanche and
both foldings of a matrix respect the XOR, so the transition does. -/

namespace Sys2Proof.Machine

/-! ### Linearity -/

theorem xor_shiftLeft_xor {w : Nat} (x y : BitVec w) (k : Nat) :
    (x ^^^ y) ^^^ ((x ^^^ y) <<< k) = (x ^^^ (x <<< k)) ^^^ (y ^^^ (y <<< k)) := by
  rw [BitVec.shiftLeft_xor_distrib]
  ac_rfl

theorem xor_ushiftRight_xor {w : Nat} (x y : BitVec w) (k : Nat) :
    (x ^^^ y) ^^^ ((x ^^^ y) >>> k) = (x ^^^ (x >>> k)) ^^^ (y ^^^ (y >>> k)) := by
  rw [BitVec.ushiftRight_xor_distrib]
  ac_rfl

theorem avalanche_xor (x y : Word) : avalanche (x ^^^ y) = avalanche x ^^^ avalanche y := by
  simp only [avalanche, xor_shiftLeft_xor, xor_ushiftRight_xor]

/-- The avalanche word of the XOR of two pairs: the mask and the sum of the pair respect the XOR too. -/
theorem avalanche_pair_xor (a0 a1 b0 b1 m : Word) :
    avalanche (((a0 ^^^ b0) &&& m) ^^^ (a1 ^^^ b1)) =
      avalanche ((a0 &&& m) ^^^ a1) ^^^ avalanche ((b0 &&& m) ^^^ b1) := by
  rw [← avalanche_xor, xor_and_distrib_right]
  congr 1
  ac_rfl

/-- Folding `m` in where a bit is set: the bit of a sum is the sum of the bits, and `m` folded in twice drops out. -/
theorem fold_xor (p q : Bool) (a b m : Word) :
    (if (p ^^ q) = true then (a ^^^ b) ^^^ m else a ^^^ b) =
      (if p = true then a ^^^ m else a) ^^^ (if q = true then b ^^^ m else b) := by
  match p, q with
  | false, false => rfl
  | false, true => exact BitVec.xor_assoc a b m
  | true, false =>
    show (a ^^^ b) ^^^ m = (a ^^^ m) ^^^ b
    ac_rfl
  | true, true =>
    calc a ^^^ b
        = (a ^^^ b) ^^^ (m ^^^ m) := by rw [BitVec.xor_self, BitVec.xor_zero]
      _ = (a ^^^ m) ^^^ (b ^^^ m) := by ac_rfl

/-- Settles O27: the bit that decides on the foldings is a bit of the avalanche word, which is linear (`avalanche_pair_xor`),
and so is each folding (`fold_xor`). -/
theorem transitionLinear : Obligations.TransitionLinear := by
  intro a0 a1 b0 b1 mat1 mat2
  apply Prod.ext
  · simp only [nextState_fst, avalanche_pair_xor, BitVec.getLsbD_xor, fold_xor]
  · simp only [nextState_snd, avalanche_pair_xor, BitVec.getLsbD_xor, fold_xor]

/-! ### Injectivity -/

/-- Settles O25, by `nextState_injective_of_significant`: bit 0 of the new `S1` tells which foldings to undo, and the
avalanche is injective. -/
theorem transitionInjective : Obligations.TransitionInjective := fun _ _ _ _ _ _ => nextState_injective_of_significant

/-! ### The command -/

/-- A command of format N is encoded by its opcode above any operand (30 R56, R67). -/
theorem encodesN_of_opcode {op : BitVec 8} {i : Instr} (hfmt : i.format = .n) (hop : i.opcode = op) : EncodesN op i :=
  fun imm => decode_eq_ok_iff.mpr ⟨by simp [hop], fun hne => absurd hfmt hne⟩

/-- The transition writes the generator and nothing else. -/
theorem State.advance_eq (s : State) :
    s.advance = { s with
      s0 := (nextState s.s0 s.s1 s.mat1 s.mat2).1
      s1 := (nextState s.s0 s.s1 s.mat1 s.mat2).2 } := rfl

theorem exec_step_of_ready {s : State} (hp : s.phase = .ready) : exec .step s = .next (s.advance.respond .ok 0) :=
  whenReady_of_ready hp _

/-- Settles O24: outside `READY` the generator is missing; in `READY` the two words are those of `nextState_fst` and
`nextState_snd`. -/
theorem stepResult : Obligations.StepResult := by
  refine ⟨encodesN_of_opcode rfl rfl, fun s => ⟨fun hp => exec_of_no_generator rfl hp, fun hp => ?_⟩⟩
  rw [exec_step_of_ready hp, State.advance_eq, nextState_fst, nextState_snd]
  rfl

end Sys2Proof.Machine
end

section
/-! PROOFS. The tempering unit (spec/44_temper.md). Each of the six double patterns denotes a number that is one integer of
`temperU64` over a power of two, plus 1 for the two conversions (the lemmas `doubleValue_temper...`). Ranges and exactness are
read off these numbers. -/

namespace Sys2Proof.Machine

variable (s0 s1 tmat : Word)

/-- Settles O29: the model's words unfold to those of the pseudocode (R100, R101, R102). -/
theorem temperingFunctions : Obligations.TemperingFunctions := fun _ _ _ => ⟨rfl, rfl, rfl, rfl⟩

/-! ### The fields of the two conversions -/

/-- The shift leaves 12 zeros above the 52-bit number (R102). -/
theorem ushiftRight_twelve_eq_append (u : Word) : u >>> 12 = 0#12 ++ u.extractLsb' 12 52 :=
  BitVec.ushiftRight_eq_extractLsb'_of_lt (by decide)

/-- The OR sets the sign to 0, the exponent field to `0x3ff` and the fraction to `m` (R102). -/
theorem temperDoubleConv_eq_append :
    temperDoubleConv s0 s1 tmat = 0x3ff#12 ++ (temperU64 s0 s1 tmat).extractLsb' 12 52 := by
  have hmask : oneBits = 0x3ff#12 ++ 0#52 := by decide
  rw [temperDoubleConv, ushiftRight_twelve_eq_append, hmask, BitVec.or_append, BitVec.zero_or, BitVec.or_zero]

/-- The open form has `m | 1` in the fraction (R102). -/
theorem temperDoubleConvOpen_eq_append :
    temperDoubleConvOpen s0 s1 tmat = 0x3ff#12 ++ ((temperU64 s0 s1 tmat).extractLsb' 12 52 ||| 1#52) := by
  have hmask : oneBitsOpen = 0x3ff#12 ++ 1#52 := by decide
  rw [temperDoubleConvOpen, ushiftRight_twelve_eq_append, hmask, BitVec.or_append, BitVec.zero_or]

/-- A pattern of sign 0 and exponent field `0x3ff` denotes 1 plus its fraction (00 R12). -/
theorem doubleValue_of_exponent_zero (f : BitVec 52) :
    doubleValue (0x3ff#12 ++ f) = some (1 + (f.toNat : ℚ) / 2 ^ 52) := by
  have hsign : (0x3ff#12 ++ f).extractLsb' 63 1 = 0 := BitVec.extractLsb'_append_eq_of_le (w := 52) (by decide)
  have hexp : (0x3ff#12 ++ f).extractLsb' 52 11 = 1023 := BitVec.extractLsb'_append_eq_of_le (w := 52) (by decide)
  have hfrac : (0x3ff#12 ++ f).extractLsb' 0 52 = f := BitVec.extractLsb'_append_eq_right
  rw [doubleValue_of_normal hsign (by rw [hexp]; decide), hexp, hfrac]
  simp

/-! ### The integers of R105 -/

theorem temperM_lt : temperM s0 s1 tmat < 2 ^ 52 := BitVec.isLt _

theorem temperV_lt : temperV s0 s1 tmat < 2 ^ 53 := BitVec.isLt _

theorem temperM_or_one_lt : temperM s0 s1 tmat ||| 1 < 2 ^ 52 := Nat.or_lt_two_pow (temperM_lt ..) (by decide)

theorem one_le_temperM_or_one : 1 ≤ temperM s0 s1 tmat ||| 1 := Nat.right_le_or

/-- `m` is what the conversions' shift leaves. -/
theorem temperM_eq_ushiftRight : temperM s0 s1 tmat = (temperU64 s0 s1 tmat >>> 12).toNat := by
  rw [ushiftRight_twelve_eq_append, BitVec.toNat_append]
  simp [temperM]

/-- `v` is what TMT's shift by 11 leaves (R110). -/
theorem temperV_eq_ushiftRight : temperV s0 s1 tmat = (temperU64 s0 s1 tmat >>> 11).toNat := by
  have hlt := (temperU64 s0 s1 tmat).isLt
  rw [temperV, BitVec.extractLsb'_toNat, BitVec.toNat_ushiftRight]
  exact Nat.mod_eq_of_lt (by omega)

/-! ### The numbers denoted -/

theorem doubleValue_temperDoubleConv :
    doubleValue (temperDoubleConv s0 s1 tmat) = some (1 + (temperM s0 s1 tmat : ℚ) / 2 ^ 52) := by
  rw [temperDoubleConv_eq_append, doubleValue_of_exponent_zero, temperM]

theorem doubleValue_temperDoubleConvOpen :
    doubleValue (temperDoubleConvOpen s0 s1 tmat) = some (1 + ((temperM s0 s1 tmat ||| 1 : ℕ) : ℚ) / 2 ^ 52) := by
  rw [temperDoubleConvOpen_eq_append, doubleValue_of_exponent_zero, BitVec.toNat_or]
  rfl

theorem doubleValue_temperDouble01 :
    doubleValue (temperDouble01 s0 s1 tmat) = some ((temperM s0 s1 tmat : ℚ) / 2 ^ 52) :=
  doubleValue_f64Scaled ((temperM_lt ..).trans (by decide)) (by decide)

theorem doubleValue_temperDoubleOO :
    doubleValue (temperDoubleOO s0 s1 tmat) = some (((temperM s0 s1 tmat ||| 1 : ℕ) : ℚ) / 2 ^ 52) :=
  doubleValue_f64Scaled ((temperM_or_one_lt ..).trans (by decide)) (by decide)

theorem doubleValue_temperDoubleOC :
    doubleValue (temperDoubleOC s0 s1 tmat) = some (1 - (temperM s0 s1 tmat : ℚ) / 2 ^ 52) := by
  have hm := (temperM_lt s0 s1 tmat).le
  rw [temperDoubleOC, doubleValue_f64Scaled (by omega) (by decide), Nat.cast_sub hm, sub_div]
  norm_num

theorem doubleValue_temperDouble53 :
    doubleValue (temperDouble53 s0 s1 tmat) = some ((temperV s0 s1 tmat : ℚ) / 2 ^ 53) :=
  doubleValue_f64Scaled (temperV_lt ..) (by decide)

/-- Settles O35: the six numbers denoted, related by field arithmetic, with `m` and `v` as the shifted words (the IEEE layout
is log entry 9). -/
theorem doubleOutputsAreExactOperations : Obligations.DoubleOutputsAreExactOperations := by
  intro s0 s1 tmat
  refine ⟨_, _, _, _, _, _, doubleValue_temperDoubleConv .., doubleValue_temperDoubleConvOpen ..,
    doubleValue_temperDouble01 .., doubleValue_temperDoubleOO .., doubleValue_temperDoubleOC ..,
    doubleValue_temperDouble53 .., ?_, ?_, ?_, ?_, ?_⟩
  · rw [temperM_eq_ushiftRight, Nat.cast_one]
  · ring
  · ring
  · ring
  · rw [temperV_eq_ushiftRight]

/-! ### Their ranges -/

/-- A `k`-bit integer over `2^k` stays one step below 1. -/
theorem div_two_pow_le_one_sub {n k : Nat} (h : n < 2 ^ k) : (n : ℚ) / 2 ^ k ≤ 1 - 1 / 2 ^ k := by
  have hn : (n : ℚ) + 1 ≤ 2 ^ k := by exact_mod_cast h
  rw [le_sub_iff_add_le, ← add_div]
  exact div_le_one_of_le₀ hn (by positivity)

/-- Settles O34: the ends of each range are the least and the greatest of its integer, `m`, `m | 1` or `v` (R118; the IEEE
layout is log entry 9). -/
theorem doubleOutputRanges : Obligations.DoubleOutputRanges := by
  intro s0 s1 tmat
  have hm0 : 0 ≤ (temperM s0 s1 tmat : ℚ) / 2 ^ 52 := by positivity
  have hm := div_two_pow_le_one_sub (temperM_lt s0 s1 tmat)
  have hodd : (1 : ℚ) ≤ (temperM s0 s1 tmat ||| 1 : ℕ) := by exact_mod_cast one_le_temperM_or_one s0 s1 tmat
  refine ⟨⟨_, doubleValue_temperDoubleConv .., ?_, ?_⟩, ⟨_, doubleValue_temperDouble01 .., hm0, hm⟩,
    ⟨_, doubleValue_temperDoubleOO .., ?_, div_two_pow_le_one_sub (temperM_or_one_lt ..)⟩,
    ⟨_, doubleValue_temperDoubleOC .., ?_, ?_⟩,
    ⟨_, doubleValue_temperDouble53 .., by positivity, div_two_pow_le_one_sub (temperV_lt ..)⟩⟩
  · linarith
  · linarith
  · gcongr
  · linarith
  · linarith

/-! ### The commands -/

/-- Settles O30: outside `READY` the generator is missing; in `READY` each of the six is a temper read of its function. -/
theorem temperReadResults : Obligations.TemperReadResults := by
  refine ⟨⟨encodesN_of_opcode rfl rfl, encodesN_of_opcode rfl rfl, encodesN_of_opcode rfl rfl, encodesN_of_opcode rfl rfl,
    encodesN_of_opcode rfl rfl, encodesN_of_opcode rfl rfl⟩, fun s => ⟨fun hp i hi => ?_, fun hp => ?_⟩⟩
  · have hneeds : ∀ i ∈ [Instr.tu64, .td12, .td01, .tdoo, .tdoc, .td53], needsGenerator i = true := by decide
    exact exec_of_no_generator (hneeds i hi) hp
  · have hread := temperRead_of_ready hp
    exact ⟨hread temperU64, hread temperDoubleConv, hread temperDouble01, hread temperDoubleOO, hread temperDoubleOC,
      hread temperDouble53⟩

/-- Settles O31: outside `READY` the generator is missing and nothing advances; in `READY` each of the six is one transition
and its function of the new pair. -/
theorem generateResults : Obligations.GenerateResults := by
  refine ⟨⟨encodesN_of_opcode rfl rfl, encodesN_of_opcode rfl rfl, encodesN_of_opcode rfl rfl, encodesN_of_opcode rfl rfl,
    encodesN_of_opcode rfl rfl, encodesN_of_opcode rfl rfl⟩, fun s => ⟨fun hp i hi => ?_, fun hp => ?_⟩⟩
  · have hneeds : ∀ i ∈ [Instr.gu64, .gd12, .gd01, .gdoo, .gdoc, .gd53], needsGenerator i = true := by decide
    exact exec_of_no_generator (hneeds i hi) hp
  · have hgen := generate_of_ready hp
    exact ⟨hgen temperU64, hgen temperDoubleConv, hgen temperDouble01, hgen temperDoubleOO, hgen temperDoubleOC,
      hgen temperDouble53⟩

end Sys2Proof.Machine
end

section
/-! PROOFS. The register reads (spec/45_register_reads.md). Each is a format N command that answers with the register and
changes nothing else; only the two status words need the generator. -/

namespace Sys2Proof.Machine

variable {s : State}

/-! ### The status words -/

theorem exec_rds0_of_ready (hp : s.phase = .ready) : exec .rds0 s = .next (s.respond .ok s.s0) := whenReady_of_ready hp _

theorem exec_rds1_of_ready (hp : s.phase = .ready) : exec .rds1 s = .next (s.respond .ok s.s1) := whenReady_of_ready hp _

/-- Settles O36: outside `READY` the generator is missing; in `READY` each read answers its word. -/
theorem statusWordReads : Obligations.StatusWordReads :=
  ⟨encodesN_of_opcode rfl rfl, encodesN_of_opcode rfl rfl, fun _ =>
    ⟨fun hp => ⟨exec_of_no_generator rfl hp, exec_of_no_generator rfl hp⟩,
      fun hp => ⟨exec_rds0_of_ready hp, exec_rds1_of_ready hp⟩⟩⟩

/-! ### The parameters -/

theorem exec_rdmat1 : exec .rdmat1 s = .next (s.respond .ok (zext64 s.mat1)) := answer_eq ..

theorem exec_rdmat2 : exec .rdmat2 s = .next (s.respond .ok (zext64 s.mat2)) := answer_eq ..

theorem exec_rdtmat : exec .rdtmat s = .next (s.respond .ok s.tmat) := answer_eq ..

/-- Settles O37: a parameter always holds a value, so its read has no phase check. -/
theorem parameterReads : Obligations.ParameterReads :=
  ⟨encodesN_of_opcode rfl rfl, encodesN_of_opcode rfl rfl, encodesN_of_opcode rfl rfl, fun _ =>
    ⟨exec_rdmat1, exec_rdmat2, exec_rdtmat⟩⟩

/-! ### The phase and the exponent -/

@[simp] theorem statWord_unseeded : statWord .unseeded = 0 := rfl
@[simp] theorem statWord_keyload : statWord .keyload = 1 := rfl
@[simp] theorem statWord_ready : statWord .ready = 2 := rfl

theorem exec_rdstat : exec .rdstat s = .next (s.respond .ok (statWord s.phase)) := answer_eq ..

theorem exec_rdexp : exec .rdexp s = .next (s.respond .ok 127) := answer_eq ..

/-- Settles O38: `STAT` holds the code of the phase, read off phase by phase; the exponent is a constant. -/
theorem statAndExponentReads : Obligations.StatAndExponentReads := by
  refine ⟨encodesN_of_opcode rfl rfl, encodesN_of_opcode rfl rfl, fun s => ⟨?_, exec_rdexp⟩⟩
  rw [exec_rdstat, State.respond]
  cases s.phase with
  | unseeded => rw [statWord_unseeded]
  | keyload => rw [statWord_keyload]
  | ready => rw [statWord_ready]

end Sys2Proof.Machine
end

section
/-! PROOFS. The host sequences (spec/46_host_sequences.md). To issue a command is to execute it (`step_present_encode`), so a
recipe is a list of commands executed in order whose responses are all `OK` (`Session.issueAll_of_execAll`). -/

namespace Sys2Proof.Machine

variable {h : Session} {i : Instr} {s t : State}

/-! ### Issuing a command -/

/-- The core takes the word the host presents, and its own input stays. -/
theorem step_present_encode (s : State) (i : Instr) : step (s.present (encode i)) = exec i s :=
  step_command rfl (decodeEncodeRoundTrip i)

theorem Session.issue_of_exec (he : exec i h.core = .next t) :
    h.issue i = ⟨⟨t, h.mem⟩, readResponse t.responses.getLast?⟩ := by
  rw [Session.issue, step_present_encode, he]

theorem readResponse_getLast?_append (rs : List Response) (r : Response) :
    readResponse (rs ++ [r]).getLast? = if r.status = .ok then .ok r.data else .error (.coreStatus r.status) := by
  rw [List.getLast?_concat, readResponse]

theorem Session.issue_of_ok {d : Word} (he : exec i h.core = .next (t.respond .ok d)) :
    h.issue i = ⟨⟨t.respond .ok d, h.mem⟩, .ok d⟩ := by
  rw [Session.issue_of_exec he, State.respond_responses, readResponse_getLast?_append, if_pos rfl]

theorem Reply.andThen_ok {α β : Type} (h : Session) (a : α) (k : Session → α → Reply β) :
    Reply.andThen ⟨h, .ok a⟩ k = k h a := rfl

theorem Reply.mapValue_ok {α β : Type} (h : Session) (a : α) (f : α → β) :
    Reply.mapValue ⟨h, .ok a⟩ f = ⟨h, .ok (f a)⟩ := rfl

/-! ### Issuing a list of commands -/

theorem Session.issueAll_cons_of_ok {d : Word} (he : exec i h.core = .next (t.respond .ok d)) (rest : List Instr) :
    h.issueAll (i :: rest) = Session.issueAll ⟨t.respond .ok d, h.mem⟩ rest := by
  rw [Session.issueAll, Session.issue_of_ok he, Reply.andThen_ok]

/-- A list of commands adds one response each, and the host carries it through where each of them is `OK`. -/
theorem Session.issueAll_of_execAll {is : List Instr} (he : execAll is h.core = .next t) :
    ∃ rs, t.responses = h.core.responses ++ rs ∧ rs.length = is.length ∧
      ((∀ r ∈ rs, r.status = .ok) → h.issueAll is = ⟨⟨t, h.mem⟩, .ok ()⟩) := by
  induction is generalizing h with
  | nil =>
    obtain rfl : h.core = t := Host.Outcome.next.inj he
    exact ⟨[], by simp, rfl, fun _ => rfl⟩
  | cons i rest ih =>
    obtain ⟨u, hu, -, r, hr, -⟩ := exec_answers i h.core
    rw [execAll_cons hu] at he
    obtain ⟨rs, hrs, hlen, hok⟩ := ih (h := ⟨u, h.mem⟩) he
    refine ⟨r :: rs, by rw [hrs, hr, List.append_assoc]; rfl, by simp [hlen], fun hall => ?_⟩
    obtain ⟨hfirst, hrest⟩ := List.forall_mem_cons.mp hall
    rw [Session.issueAll, Session.issue_of_exec hu, hr, readResponse_getLast?_append, if_pos hfirst, Reply.andThen_ok,
      hok hrest]

/-! ### Constructors -/

theorem toNat_zext64_lt (v : Half) : (zext64 v).toNat < 2 ^ 32 := by
  rw [zext64, BitVec.toNat_setWidth_of_le (by decide)]
  exact v.isLt

theorem extractLsb'_zext64 (v : Half) : (zext64 v).extractLsb' 0 32 = v := by
  rw [zext64, ← BitVec.setWidth_eq_extractLsb' (by decide), BitVec.setWidth_setWidth_of_le _ (by decide), BitVec.setWidth_eq]

theorem exec_ldmat1_zext64 (v : Half) (s : State) :
    exec (.ldmat1 (zext64 v)) s = .next ((s.writeMat1 v).endInstance.respond .ok 0) := by
  rw [exec_ldmat1_of_fits (toNat_zext64_lt v), extractLsb'_zext64]

theorem exec_ldmat2_zext64 (v : Half) (s : State) :
    exec (.ldmat2 (zext64 v)) s = .next ((s.writeMat2 v).endInstance.respond .ok 0) := by
  rw [exec_ldmat2_of_fits (toNat_zext64_lt v), extractLsb'_zext64]

theorem exec_ldtmat (v : Word) (s : State) :
    exec (.ldtmat v) s = .next ((s.writeTmat v).endInstance.respond .ok 0) := answer_eq ..

theorem exec_seed (w : Word) (s : State) :
    exec (.seed w) s = .next ((s.becomeReady (seedScalar s.config s.mat1 s.mat2 s.tmat w)).respond .ok 0) := answer_eq ..

/-- The three loads every constructor starts with are accepted, whatever the phase, and leave the parameters given. -/
theorem Session.issueAll_parameterLoads (h : Session) (mat1 mat2 : Half) (tmat : Word) (rest : List Instr) :
    ∃ u, h.issueAll (parameterLoads mat1 mat2 tmat ++ rest) = Session.issueAll ⟨u, h.mem⟩ rest ∧
      u.mat1 = mat1 ∧ u.mat2 = mat2 ∧ u.tmat = tmat ∧ u.config = h.core.config ∧ u.input = h.core.input := by
  have hloads :=
    calc h.issueAll (parameterLoads mat1 mat2 tmat ++ rest)
      _ = _ := Session.issueAll_cons_of_ok (exec_ldmat1_zext64 mat1 _) _
      _ = _ := Session.issueAll_cons_of_ok (exec_ldmat2_zext64 mat2 _) _
      _ = _ := Session.issueAll_cons_of_ok (exec_ldtmat tmat _) _
  exact ⟨_, hloads, rfl, rfl, rfl, rfl, rfl⟩

/-- Settles O47: after the three loads (`Session.issueAll_parameterLoads`) `SEED` seeds with the parameters they left. -/
theorem newpConstructs : Obligations.NewpConstructs := by
  intro h seed mat1 mat2 tmat
  obtain ⟨u, hloads, rfl, rfl, rfl, hconfig, hinput⟩ := h.issueAll_parameterLoads mat1 mat2 tmat [.seed seed]
  have hseed := Session.issueAll_cons_of_ok (h := ⟨u, h.mem⟩) (exec_seed seed u) []
  refine ⟨_, hloads.trans hseed, rfl, hinput, rfl, rfl, rfl, rfl, ?_⟩
  rw [← hconfig]
  rfl

/-- Settles O48: the host's own check refuses a bad length; after the three loads the streamed key load is the whole-key
algorithm (`streamedKeyLoadEqualsWholeKey`), and all its responses are `OK`. -/
theorem newapConstructs : Obligations.NewapConstructs := by
  intro h key mat1 mat2 tmat hc
  refine ⟨fun hbad => if_pos hbad, fun hlegal => ?_⟩
  obtain ⟨u, hloads, rfl, rfl, rfl, hconfig, hinput⟩ := h.issueAll_parameterLoads mat1 mat2 tmat (arraySeeding key)
  rw [← hconfig] at hc hlegal ⊢
  obtain ⟨t, ht, hp, hgen, hmat1, hmat2, htmat, -, hin, hresp⟩ :=
    streamedKeyLoadEqualsWholeKey u key hc (by omega) (by omega)
  obtain ⟨rs, hrs, -, hok⟩ := Session.issueAll_of_execAll (h := ⟨u, h.mem⟩) ht
  obtain rfl := List.append_cancel_left (hrs.symm.trans hresp)
  have hall : ∀ r ∈ List.replicate (key.length + 1) (⟨.ok, 0⟩ : Response), r.status = .ok := fun r hr => by
    rw [List.eq_of_mem_replicate hr]
  have hnewap : hostNewap h key u.mat1 u.mat2 u.tmat = ⟨⟨t, h.mem⟩, .ok ()⟩ := by
    rw [hostNewap, ← hconfig, if_neg hlegal]
    exact hloads.trans (hok hall)
  exact ⟨_, hnewap, rfl, hin.trans hinput, hp, hmat1, hmat2, htmat, hgen⟩

/-! ### One draw -/

/-- The session after one generate command that answered `d`: one transition, host memory as it was. -/
def Session.afterDraw (h : Session) (d : Word) : Session := { h with core := h.core.advance.respond .ok d }

/-- A generate command of a `READY` core returns its output of the new state (44 R111). -/
theorem Session.issue_of_generate {f : Word → Word → Word → Word} (hp : h.core.phase = .ready)
    (hi : exec i h.core = generate f h.core) :
    h.issue i = ⟨h.afterDraw (f h.core.advance.s0 h.core.advance.s1 h.core.tmat),
      .ok (f h.core.advance.s0 h.core.advance.s1 h.core.tmat)⟩ :=
  Session.issue_of_ok (hi.trans (generate_of_ready hp f))

theorem Session.issue_gu64 (hp : h.core.phase = .ready) :
    h.issue .gu64 = ⟨h.afterDraw (temperU64 h.core.advance.s0 h.core.advance.s1 h.core.tmat),
      .ok (temperU64 h.core.advance.s0 h.core.advance.s1 h.core.tmat)⟩ :=
  Session.issue_of_generate hp rfl

/-- The result and the state that R139 gives a `NEXT*` operation, for any tempering function. -/
theorem Session.issue_returns {f : Word → Word → Word → Word} (hp : h.core.phase = .ready)
    (hi : exec i h.core = generate f h.core) :
    (h.issue i).result = .ok (f h.core.advance.s0 h.core.advance.s1 h.core.tmat) ∧
      ((h.issue i).session.core.s0, (h.issue i).session.core.s1) =
        nextState h.core.s0 h.core.s1 h.core.mat1 h.core.mat2 ∧
      (h.issue i).session.core.phase = .ready ∧ (h.issue i).session.core.tmat = h.core.tmat ∧
      (h.issue i).session.mem = h.mem := by
  rw [Session.issue_of_generate hp hi]
  exact ⟨rfl, rfl, hp, rfl, rfl⟩

/-- Settles O49: the six `NEXT*` are generate commands (`Session.issue_returns`), and `GETEXP` is the read of a constant. -/
theorem renamedOperations : Obligations.RenamedOperations := by
  intro h hp
  have hexp : hostGetExp h = ⟨⟨h.core.respond .ok 127, h.mem⟩, .ok 127⟩ := Session.issue_of_ok exec_rdexp
  refine ⟨Session.issue_returns hp rfl, Session.issue_returns (f := temperDouble53) hp rfl,
    Session.issue_returns (f := temperDouble01) hp rfl, Session.issue_returns (f := temperDoubleConv) hp rfl,
    Session.issue_returns (f := temperDoubleOC) hp rfl, Session.issue_returns (f := temperDoubleOO) hp rfl, ?_⟩
  rw [hexp]
  exact ⟨rfl, rfl, hp, rfl, rfl⟩

end Sys2Proof.Machine
end

section
/-! PROOFS. The integers of the host (spec/46_host_sequences.md R140 to R144). `scale_trunc` stays below its range because
rounding adds at most half a unit of the last place, and that is less than what the draw falls short of 2^53
(`round53_le_add_half`, `scaleTrunc_lt`; the arithmetic is log entry 16). -/

namespace Sys2Proof.Machine

/-! ### The low bits of an output -/

theorem lowInt31_eq (w : Word) : lowInt31 w = (w.extractLsb' 0 31).toNat := by
  have hmask : (0x7fffffff : Word).toNat = 2 ^ 31 - 1 := by decide
  rw [lowInt31, BitVec.toNat_and, hmask, Nat.and_two_pow_sub_one_eq_mod, BitVec.extractLsb'_toNat, Nat.shiftRight_zero]

theorem hostNextInt_of_ready {h : Session} (hp : h.core.phase = .ready) :
    hostNextInt h = ⟨h.afterDraw (temperU64 h.core.advance.s0 h.core.advance.s1 h.core.tmat),
      .ok (lowInt31 (temperU64 h.core.advance.s0 h.core.advance.s1 h.core.tmat))⟩ := by
  rw [hostNextInt, Session.issue_gu64 hp, Reply.mapValue_ok]

/-- Settles O50: one `GU64` (`hostNextInt_of_ready`), and the mask keeps bits 30 to 0 (`lowInt31_eq`). -/
theorem nextIntLowBits : Obligations.NextIntLowBits := by
  intro h hp
  have hlt := ((temperU64 h.core.advance.s0 h.core.advance.s1 h.core.tmat).extractLsb' 0 31).isLt
  refine ⟨_, _, hostNextInt_of_ready hp, rfl, rfl, lowInt31_eq _, ?_, ?_⟩
  all_goals
    rw [lowInt31_eq]
    omega

/-! ### The bounded integer -/

theorem round53_of_lt {p : Nat} (hp : p < 2 ^ 53) : round53 p = p := if_pos hp

theorem le_log2_of_two_pow_53_le {p : Nat} (hp : 2 ^ 53 ≤ p) : 53 ≤ p.log2 := (Nat.le_log2 (by omega)).mpr hp

/-- Rounding to 53 significant bits adds at most half a unit of the last place (46 R141). -/
theorem round53_le_add_half {p : Nat} (hp : 2 ^ 53 ≤ p) : round53 p ≤ p + 2 ^ (p.log2 - 52 - 1) := by
  rw [round53, if_neg hp.not_gt]
  simp only
  generalize hk : p.log2 - 52 = k
  have hpos : k ≠ 0 := by
    have hlog := le_log2_of_two_pow_53_le hp
    omega
  have hunit : 2 ^ k = 2 * 2 ^ (k - 1) := (mul_pow_sub_one hpos 2).symm
  have hdiv : p >>> k * 2 ^ k + p % 2 ^ k = p := by rw [Nat.shiftRight_eq_div_pow, Nat.div_add_mod']
  split_ifs with hup
  · rw [add_one_mul]
    omega
  · omega

/-- The greatest draw falls short of 2^53 by one, so its product with the range falls short by the range, which half a unit
of the last place does not make up. -/
theorem round53_mul_lt {v range : Nat} (hv : v < 2 ^ 53) (hr : 0 < range) : round53 (v * range) < range * 2 ^ 53 := by
  have hp : v * range + range ≤ range * 2 ^ 53 := by
    calc v * range + range = (v + 1) * range := (add_one_mul v range).symm
      _ ≤ 2 ^ 53 * range := Nat.mul_le_mul_right _ hv
      _ = range * 2 ^ 53 := mul_comm ..
  by_cases hsmall : v * range < 2 ^ 53
  · rw [round53_of_lt hsmall]
    omega
  · have hbig : 2 ^ 53 ≤ v * range := not_lt.mp hsmall
    have hlog := le_log2_of_two_pow_53_le hbig
    have htop : 2 ^ ((v * range).log2 - 52 - 1) * 2 ^ 53 ≤ v * range := by
      rw [← pow_add, show (v * range).log2 - 52 - 1 + 53 = (v * range).log2 by omega]
      exact Nat.log2_self_le (by omega)
    have hround := round53_le_add_half hbig
    omega

theorem scaleTrunc_lt {v range : Nat} (hv : v < 2 ^ 53) (hr : 0 < range) : scaleTrunc v range < range :=
  (Nat.div_lt_iff_lt_mul (by decide)).mpr (round53_mul_lt hv hr)

@[simp] theorem scaleTrunc_zero (v : Nat) : scaleTrunc v 0 = 0 := by
  rw [scaleTrunc, mul_zero, round53_of_lt (by decide), Nat.zero_div]

/-- Settles O51: `scaleTrunc_lt`, which needs no bound on the range, and `scaleTrunc_zero`. -/
theorem scaleTruncBelowRange : Obligations.ScaleTruncBelowRange := by
  rintro v range hv -
  exact ⟨scaleTrunc_lt hv, fun hr => hr ▸ scaleTrunc_zero v⟩

/-! ### The bounded draws -/

variable {h : Session}

theorem ushiftRight_eleven_lt (w : Word) : (w >>> 11).toNat < 2 ^ 53 := by
  rw [BitVec.toNat_ushiftRight, Nat.shiftRight_eq_div_pow]
  omega

/-- The host reads the 53-bit integer of the output back from its double (46 R142). -/
theorem draw53_temperDouble53 (s0 s1 tmat : Word) :
    draw53 (temperDouble53 s0 s1 tmat) = (temperU64 s0 s1 tmat >>> 11).toNat := by
  rw [temperDouble53, draw53_f64Scaled (temperV_lt ..), temperV_eq_ushiftRight]

/-- One `GD53` and a function of the integer it was made of (46 R142, R143). -/
theorem Session.issue_gd53_mapValue (hp : h.core.phase = .ready) (g : Nat → Int) :
    (h.issue .gd53).mapValue (fun d => g (draw53 d)) =
      ⟨h.afterDraw (temperDouble53 h.core.advance.s0 h.core.advance.s1 h.core.tmat),
        .ok (g (temperU64 h.core.advance.s0 h.core.advance.s1 h.core.tmat >>> 11).toNat)⟩ := by
  rw [Session.issue_of_generate (f := temperDouble53) hp rfl, Reply.mapValue_ok, draw53_temperDouble53]

/-- Settles O53: the host's own check refuses a negative `max`; otherwise one `GD53`, scaled below `max`. -/
theorem nextIntMaxLaw : Obligations.NextIntMaxLaw := by
  refine fun h max => ⟨fun hneg => if_pos hneg, fun hmax hp => ?_⟩
  have hdraw : hostNextIntMax h max = _ :=
    (if_neg hmax.not_gt).trans (Session.issue_gd53_mapValue hp fun v => (scaleTrunc v max.toInt.toNat : Int))
  have hv := ushiftRight_eleven_lt (temperU64 h.core.advance.s0 h.core.advance.s1 h.core.tmat)
  refine ⟨_, _, hdraw, rfl, rfl, rfl, Int.natCast_nonneg _, fun hpos => ?_, fun hzero => ?_⟩
  · have hlt := scaleTrunc_lt hv (range := max.toInt.toNat) (by omega)
    omega
  · rw [hzero, Int.toNat_zero, scaleTrunc_zero, Int.natCast_zero]

/-- Settles O54: the host's own check refuses `min > max`; otherwise one `GD53`, scaled below the exact range. -/
theorem nextIntRangeLaw : Obligations.NextIntRangeLaw := by
  refine fun h min max => ⟨fun hgt => if_pos hgt, fun hle hp => ?_⟩
  have hdraw : hostNextIntRange h min max = _ := (if_neg hle.not_gt).trans
    (Session.issue_gd53_mapValue hp fun v => min.toInt + (scaleTrunc v (max.toInt - min.toInt).toNat : Int))
  have hv := ushiftRight_eleven_lt (temperU64 h.core.advance.s0 h.core.advance.s1 h.core.tmat)
  refine ⟨_, _, hdraw, rfl, rfl, rfl, Int.le_add_of_nonneg_right (Int.natCast_nonneg _), fun hlt => ?_, fun heq => ?_⟩
  · have hbelow := scaleTrunc_lt hv (range := (max.toInt - min.toInt).toNat) (by omega)
    omega
  · rw [heq, sub_self, Int.toNat_zero, scaleTrunc_zero, Int.natCast_zero, add_zero]

end Sys2Proof.Machine
end

section
/-! PROOFS. The byte fill (spec/46_host_sequences.md R146): by induction on the draws, every byte of the buffer is the byte
of the draw stream at its offset (`fillByte`), and the rest of memory is as it was (`fillDraws_fills`; the addresses are
those of log entry 17). -/

namespace Sys2Proof.Machine

variable {h : Session} {s : State}

/-! ### The bytes of the outputs -/

/-- Byte `b` of the outputs of `s`, eight bytes to an output, least significant first (46 R146). -/
def fillByte (s : State) (b : Nat) : BitVec 8 :=
  let c := State.advance^[b / 8 + 1] s
  (temperU64 c.s0 c.s1 c.tmat).extractLsb' (8 * (b % 8)) 8

/-- A response takes no part in the transition. -/
theorem advance_iterate_respond (x : Status) (d : Word) (n : Nat) :
    State.advance^[n] (s.respond x d) = (State.advance^[n] s).respond x d := by
  have hcomm : Function.Commute State.advance (·.respond x d) := fun _ => rfl
  exact hcomm.iterate_left n s

@[simp] theorem fillByte_respond (x : Status) (d : Word) (b : Nat) : fillByte (s.respond x d) b = fillByte s b := by
  simp [fillByte, advance_iterate_respond]

@[simp] theorem fillByte_advance (b : Nat) : fillByte s.advance b = fillByte s (b + 8) := by
  rw [fillByte, fillByte, Nat.add_div_right b (by decide), Nat.add_mod_right, Function.iterate_succ_apply _ (b / 8 + 1)]

/-- The first eight bytes are those of the first output. -/
theorem fillByte_of_lt {b : Nat} (hb : b < 8) :
    fillByte s b = (temperU64 s.advance.s0 s.advance.s1 s.tmat).extractLsb' (8 * b) 8 := by
  rw [fillByte, Nat.div_eq_of_lt hb, Nat.mod_eq_of_lt hb]
  rfl

/-! ### The fill -/

/-- One draw of the fill: a `GU64`, and its bytes stored. -/
theorem fillDraws_succ (hp : h.core.phase = .ready) (n a len : Nat) :
    ∃ w, fillDraws (n + 1) a len h =
        fillDraws n (a + 8) (len - 8) ⟨h.core.advance.respond .ok w, hostStore h.mem a w (min 8 len)⟩ ∧
      ∀ b < 8, w.extractLsb' (8 * b) 8 = fillByte h.core b := by
  refine ⟨temperU64 h.core.advance.s0 h.core.advance.s1 h.core.tmat, ?_, fun b hb => (fillByte_of_lt hb).symm⟩
  rw [fillDraws, Session.issue_gu64 hp]
  rfl

theorem fillDraws_fills (hp : h.core.phase = .ready) {n len : Nat} (a : Nat) (hn : n = (len + 7) / 8) :
    ∃ h', fillDraws n a len h = ⟨h', .ok ()⟩ ∧
      (h'.core.s0, h'.core.s1) = ((State.advance^[n] h.core).s0, (State.advance^[n] h.core).s1) ∧
      ∀ x, hostRead h'.mem x =
        if a ≤ x ∧ x < a + len then some (fillByte h.core (x - a)) else hostRead h.mem x := by
  induction n generalizing a len h with
  | zero => exact ⟨h, rfl, rfl, fun x => (if_neg (by omega)).symm⟩
  | succ n ih =>
    obtain ⟨w, hstep, hw⟩ := fillDraws_succ hp n a len
    let h₁ : Session := ⟨h.core.advance.respond .ok w, hostStore h.mem a w (min 8 len)⟩
    obtain ⟨h', hfill, hgen, hread⟩ := ih (h := h₁) (len := len - 8) hp (a + 8) (by omega)
    refine ⟨h', hstep.trans hfill, hgen.trans (by simp [h₁, advance_iterate_respond]), fun x => ?_⟩
    rw [hread, hostRead_hostStore, fillByte_respond, fillByte_advance]
    by_cases hfirst : a ≤ x ∧ x < a + min 8 len
    · rw [if_neg (by omega), if_pos hfirst, if_pos (by omega), hw _ (by omega)]
    · rw [if_neg hfirst]
      by_cases hlater : a + 8 ≤ x ∧ x < a + 8 + (len - 8)
      · rw [if_pos hlater, if_pos (by omega), show x - (a + 8) + 8 = x - a by omega]
      · rw [if_neg hlater, if_neg (by omega)]

/-- Settles O55: the host's own check refuses an absent buffer; otherwise `fillDraws_fills`, read inside the buffer and
outside it (the addresses are those of log entry 17). -/
theorem nextBytesFills : Obligations.NextBytesFills := by
  refine fun h len => ⟨rfl, fun hp a => ?_⟩
  obtain ⟨h', hfill, hgen, hread⟩ := fillDraws_fills hp a rfl
  refine ⟨h', hfill, hgen, fun b hb => ?_, fun x hx => ?_⟩
  · rw [hread, if_pos (by omega), Nat.add_sub_cancel_left]
    rfl
  · rw [hread, if_neg (by omega)]

end Sys2Proof.Machine
end

section
/-! PROOFS. Errors, the idle step and reset (spec/60_exceptions.md R155, R156, R162, R173; spec/70_reset_and_hazards.md R180,
R181). A command word either gets an error, and then only that response is added, or is answered `OK` (`step_word_cases`);
the status of a command is the one of table R155 (`exec_status`). -/

namespace Sys2Proof.Machine

variable {s t : State} {i : Instr} {c : Config} {cw : CommandWord} {rest : List PortInput}

/-! ### At most one cause of an error -/

theorem isKey_of_needsGenerator (hi : needsGenerator i = true) : isKey i = false := by
  cases i with
  | key w => cases hi
  | _ => rfl

/-- Only the two loads of format W and `SEEDA` check their operand, and they run in every phase (60 R155). -/
theorem wellFormed_of_phase_check (hi : needsGenerator i = true ∨ isKey i = true) : i.wellFormed c = true := by
  cases i with
  | ldmat1 imm | ldmat2 imm | seeda imm => rcases hi with hgen | hkey <;> contradiction
  | _ => rfl

/-- Settles O42: `KEY` does not need the generator, and no command with a phase check has a checked operand. -/
theorem errorCausesExclude : Obligations.ErrorCausesExclude := by
  refine fun c i => ⟨fun ⟨hgen, hkey⟩ => ?_, wellFormed_of_phase_check⟩
  exact Bool.false_ne_true ((isKey_of_needsGenerator hgen).symm.trans hkey)

/-! ### The status of a command word -/

/-- A command is answered with the status of table R155, and an error has data 0. -/
theorem exec_status (i : Instr) (s : State) :
    ∃ t d, exec i s = .next t ∧ t.responses = s.responses ++ [⟨statusTable s.config s.phase i, d⟩] ∧
      (statusTable s.config s.phase i ≠ .ok → d = 0) := by
  by_cases hst : statusTable s.config s.phase i = .ok
  · obtain ⟨t, ht, hacc⟩ := exec_accepted hst
    obtain ⟨-, d, hr⟩ := hacc.answers
    exact ⟨t, d, ht, hst.symm ▸ hr, fun hne => absurd hst hne⟩
  · exact ⟨_, 0, exec_of_error hst, rfl, fun _ => rfl⟩

/-- Settles O41: the step refuses a word that is no command (`step_undecoded`), and answers a command by `exec_status`, whose
parameters and phase taking the word leaves alone. -/
theorem statusFollowsErrorTable : Obligations.StatusFollowsErrorTable := by
  intro s cw rest hin
  cases hd : decode cw with
  | error e => exact ⟨_, 0, step_undecoded hin hd, rfl, fun _ => rfl⟩
  | ok i =>
    rw [step_command hin hd]
    exact exec_status i (s.withInput rest)

/-! ### What an error changes -/

/-- A word presented gets an error and does nothing else, or it is answered `OK`. -/
theorem step_word_cases (hin : s.input = .command cw :: rest) (h : step s = .next t) :
    (∃ e, e ≠ .ok ∧ t = (s.withInput rest).respond e 0) ∨ ∃ d, t.responses = s.responses ++ [⟨.ok, d⟩] := by
  cases hd : decode cw with
  | error e =>
    have ht := Host.Outcome.next.inj ((step_undecoded hin hd).symm.trans h)
    exact .inl ⟨.errIllegal, nofun, ht.symm⟩
  | ok i =>
    rw [step_command hin hd] at h
    obtain ⟨hne, ht⟩ | ⟨-, hacc⟩ := exec_cases h
    · exact .inl ⟨_, hne, ht⟩
    · exact .inr hacc.answers.2

/-- Settles O40: of the two ways a word is answered (`step_word_cases`), the status tells them apart. -/
theorem errorChangesNothing : Obligations.ErrorChangesNothing := by
  intro s t cw rest r hin h hr hne
  obtain ⟨e, -, rfl⟩ | ⟨d, hok⟩ := step_word_cases hin h
  · obtain rfl : ⟨e, 0⟩ = r := List.singleton_inj.mp (List.append_cancel_left hr)
    exact ⟨rfl, rfl⟩
  · obtain rfl : ⟨.ok, d⟩ = r := List.singleton_inj.mp (List.append_cancel_left (hok.symm.trans hr))
    exact absurd rfl hne

/-! ### The idle step and reset -/

/-- Settles O8, by `step_idle` (the idle step is log entry 6). -/
theorem idleStepHoldsState : Obligations.IdleStepHoldsState := fun _ => step_idle

/-- Settles O9, by `step_reset` and the values `State.assertReset` writes (input and responses are log entries 1 and 2). -/
theorem resetInputGivesResetState : Obligations.ResetInputGivesResetState := fun s rest hin =>
  ⟨(s.withInput rest).assertReset, step_reset hin, by simp⟩

end Sys2Proof.Machine
end
